-- ==== Sys2Proof/Word.lean ====
section
/-! DEFINITION. The word types of the FDC core and its fixed constants (R7, R9, R11). -/

namespace Sys2Proof

/-- A byte: everything the host exchanges with the block is one byte (R11, R62). -/
abbrev Byte := BitVec 8

/-- The six-bit opcode field of a command byte (R7: `OPCODE_MASK = 0x3F`; R90). -/
abbrev Opcode := BitVec 6

/-- A drive number; there are `NDRIVES = 2` drives (R7, R36). -/
abbrev Drive := Fin 2

/-- A port number; there are `NPORTS = 8` ports (R7, R60). -/
abbrev Port := Fin 8

/-- The five parameter slots, `PARAM_SLOTS = 5` (R7, R21). -/
abbrev Params := Vector Byte 5

end Sys2Proof
end

