-- ==== Sys2Proof/Config.lean ====
section
/-! DEFINITION. The parameters the spec leaves open (R10), as opaque constants under the constraints R10 states. Nothing in
Lean can evaluate one, so whatever is proved holds for every value the spec allows (log 3). -/

namespace Sys2Proof

/-- A value of the collaborator's density type. The spec does not say which values that type has; they are numbered
(log 11). -/
structure Density where
  code : Nat
deriving DecidableEq, Repr

/-- A byte with exactly one bit set. -/
abbrev OneBit (m : Byte) : Prop := ∃ k : Fin 8, m = 1#8 <<< k.val

/-- The open parameters with their constraints (R10). The default values only show that the constraints can be met
together; no definition and no proof can see them through `Config.openParameters`. -/
structure OpenParameters where
  /-- `SIDESEL_MASK`: the side-select bit of `drvout`. -/
  sideselMask : Byte := 0x20
  /-- `RDS_BASE`: constant bits of the Read-drive-status result. -/
  rdsBase : Byte := 0x00
  /-- `RDS_TRK0`: the track-zero flag of that result. -/
  rdsTrk0 : Byte := 0x02
  /-- `RDS_SEL0`: the drive-0 select flag of that result. -/
  rdsSel0 : Byte := 0x04
  /-- `RDS_SEL1`: the drive-1 select flag of that result. -/
  rdsSel1 : Byte := 0x40
  /-- `SR_TRACK0`: special-register index of `curtrack[0]`. -/
  srTrack0 : Byte := 0x12
  /-- `SR_TRACK1`: special-register index of `curtrack[1]`. -/
  srTrack1 : Byte := 0x1A
  /-- `SR_DRVOUT`: special-register index of `drvout`. -/
  srDrvout : Byte := 0x23
  /-- `SR_WRITE_IGNORED`: the indices a Write special register accepts with no effect. -/
  srWriteIgnored : List Byte := []
  /-- `T_SHORT`: the fixed short delay. -/
  tShort : Nat := 200
  /-- `SEEK_DELAY(n, step_time, settle_time)`. -/
  seekDelay : Nat → Nat → Nat → Nat := fun _ _ _ => 1
  /-- `REV_CYCLES`: cycles of one mechanical revolution. -/
  revCycles : Nat := 2
  /-- `T_SPINDOWN_SHORT`: the delay of a short spindown. -/
  tSpindownShort : Nat := 1
  /-- `DENSITY`: the density argument of the requests. -/
  density : Density := ⟨0⟩
  /-- `FORMAT_FILL(params)`: the fill pattern of a format request. -/
  formatFill : Params → Byte := fun _ => 0
  sidesel_one_bit : OneBit sideselMask := by decide
  sidesel_off_drivesel : sideselMask &&& 0xC0 = 0 := by decide
  rdsTrk0_one_bit : OneBit rdsTrk0 := by decide
  rdsSel0_one_bit : OneBit rdsSel0 := by decide
  rdsSel1_one_bit : OneBit rdsSel1 := by decide
  rdsTrk0_off_rdsSel0 : rdsTrk0 &&& rdsSel0 = 0 := by decide
  rdsTrk0_off_rdsSel1 : rdsTrk0 &&& rdsSel1 = 0 := by decide
  rdsSel0_off_rdsSel1 : rdsSel0 &&& rdsSel1 = 0 := by decide
  rdsBase_off_flags : rdsBase &&& (rdsTrk0 ||| rdsSel0 ||| rdsSel1) = 0 := by decide
  srTrack0_ne_srTrack1 : srTrack0 ≠ srTrack1 := by decide
  srTrack0_ne_srDrvout : srTrack0 ≠ srDrvout := by decide
  srTrack1_ne_srDrvout : srTrack1 ≠ srDrvout := by decide
  srTrack0_not_ignored : srTrack0 ∉ srWriteIgnored := by decide
  srTrack1_not_ignored : srTrack1 ∉ srWriteIgnored := by decide
  srDrvout_not_ignored : srDrvout ∉ srWriteIgnored := by decide
  tShort_pos : 0 < tShort := by decide
  seekDelay_pos : ∀ n step settle, 0 < seekDelay n step settle := by exact fun _ _ _ => Nat.one_pos
  revCycles_pos : 0 < revCycles := by decide
  tSpindownShort_lt : tSpindownShort < revCycles := by decide
deriving Inhabited

/-- The hardware's open parameters: one value each, fixed for a run (R10, R80), and unknown. -/
opaque Config.openParameters : OpenParameters

/-- `SIDESEL_MASK` (R10). -/
def Config.sideselMask : Byte := Config.openParameters.sideselMask
/-- `RDS_BASE` (R10). -/
def Config.rdsBase : Byte := Config.openParameters.rdsBase
/-- `RDS_TRK0` (R10). -/
def Config.rdsTrk0 : Byte := Config.openParameters.rdsTrk0
/-- `RDS_SEL0` (R10). -/
def Config.rdsSel0 : Byte := Config.openParameters.rdsSel0
/-- `RDS_SEL1` (R10). -/
def Config.rdsSel1 : Byte := Config.openParameters.rdsSel1
/-- `SR_TRACK0` (R10). -/
def Config.srTrack0 : Byte := Config.openParameters.srTrack0
/-- `SR_TRACK1` (R10). -/
def Config.srTrack1 : Byte := Config.openParameters.srTrack1
/-- `SR_DRVOUT` (R10). -/
def Config.srDrvout : Byte := Config.openParameters.srDrvout
/-- `SR_WRITE_IGNORED` (R10). -/
def Config.srWriteIgnored : List Byte := Config.openParameters.srWriteIgnored
/-- `T_SHORT` (R10). -/
def Config.tShort : Nat := Config.openParameters.tShort
/-- `SEEK_DELAY(n, step_time, settle_time)` (R10). -/
def Config.seekDelay (n stepTime settleTime : Nat) : Nat := Config.openParameters.seekDelay n stepTime settleTime
/-- `REV_CYCLES` (R10). -/
def Config.revCycles : Nat := Config.openParameters.revCycles
/-- `T_SPINDOWN_SHORT` (R10). -/
def Config.tSpindownShort : Nat := Config.openParameters.tSpindownShort
/-- `DENSITY` (R10). -/
def Config.density : Density := Config.openParameters.density
/-- `FORMAT_FILL(params)` (R10, R222). -/
def Config.formatFill (params : Params) : Byte := Config.openParameters.formatFill params

end Sys2Proof
end

