-- ==== Sys2Proof/Syntax.lean ====
section
/-! DEFINITION. The instructions: one constructor per row of spec/opcode_table.json, in the table's order, and what the
host does on its bus to issue one. -/

namespace Sys2Proof

/-- An instruction. The 64 command rows carry the two select bits `SEL1`, `SEL0` of the command byte (R90) and the
parameter bytes in order of arrival (R94); the 16 port rows carry the address the host put on the bus, of which only the
low three bits are decoded (R60, R103), and for a write its byte. -/
inductive Instr where
  /-- `UNKNOWN_00`: Unknown opcode 0x00 (R161). -/
  | unknown00 (sel1 sel0 : Bool)
  /-- `UNKNOWN_01`: Unknown opcode 0x01 (R161). -/
  | unknown01 (sel1 sel0 : Bool)
  /-- `UNKNOWN_02`: Unknown opcode 0x02 (R161). -/
  | unknown02 (sel1 sel0 : Bool)
  /-- `UNKNOWN_03`: Unknown opcode 0x03 (R161). -/
  | unknown03 (sel1 sel0 : Bool)
  /-- `UNKNOWN_04`: Unknown opcode 0x04 (R161). -/
  | unknown04 (sel1 sel0 : Bool)
  /-- `UNKNOWN_05`: Unknown opcode 0x05 (R161). -/
  | unknown05 (sel1 sel0 : Bool)
  /-- `UNKNOWN_06`: Unknown opcode 0x06 (R161). -/
  | unknown06 (sel1 sel0 : Bool)
  /-- `UNKNOWN_07`: Unknown opcode 0x07 (R161). -/
  | unknown07 (sel1 sel0 : Bool)
  /-- `UNKNOWN_08`: Unknown opcode 0x08 (R161). -/
  | unknown08 (sel1 sel0 : Bool)
  /-- `UNKNOWN_09`: Unknown opcode 0x09 (R161). -/
  | unknown09 (sel1 sel0 : Bool)
  /-- `UNKNOWN_0A`: Unknown opcode 0x0A (R161). -/
  | unknown0A (sel1 sel0 : Bool)
  /-- `WR_SECTOR`: Write sector (R192). -/
  | wrSector (sel1 sel0 : Bool) (track sector sizeCount : Byte)
  /-- `UNKNOWN_0C`: Unknown opcode 0x0C (R161). -/
  | unknown0C (sel1 sel0 : Bool)
  /-- `UNKNOWN_0D`: Unknown opcode 0x0D (R161). -/
  | unknown0D (sel1 sel0 : Bool)
  /-- `UNKNOWN_0E`: Unknown opcode 0x0E (R161). -/
  | unknown0E (sel1 sel0 : Bool)
  /-- `UNKNOWN_0F`: Unknown opcode 0x0F (R161). -/
  | unknown0F (sel1 sel0 : Bool)
  /-- `UNKNOWN_10`: Unknown opcode 0x10 (R161). -/
  | unknown10 (sel1 sel0 : Bool)
  /-- `UNKNOWN_11`: Unknown opcode 0x11 (R161). -/
  | unknown11 (sel1 sel0 : Bool)
  /-- `UNKNOWN_12`: Unknown opcode 0x12 (R161). -/
  | unknown12 (sel1 sel0 : Bool)
  /-- `RD_SECTOR`: Read sector (R193). -/
  | rdSector (sel1 sel0 : Bool) (track sector sizeCount : Byte)
  /-- `UNKNOWN_14`: Unknown opcode 0x14 (R161). -/
  | unknown14 (sel1 sel0 : Bool)
  /-- `UNKNOWN_15`: Unknown opcode 0x15 (R161). -/
  | unknown15 (sel1 sel0 : Bool)
  /-- `UNKNOWN_16`: Unknown opcode 0x16 (R161). -/
  | unknown16 (sel1 sel0 : Bool)
  /-- `RD_SECTOR_ALIAS`: The alias of Read sector (R191). -/
  | rdSectorAlias (sel1 sel0 : Bool) (track sector sizeCount : Byte)
  /-- `UNKNOWN_18`: Unknown opcode 0x18 (R161). -/
  | unknown18 (sel1 sel0 : Bool)
  /-- `UNKNOWN_19`: Unknown opcode 0x19 (R161). -/
  | unknown19 (sel1 sel0 : Bool)
  /-- `UNKNOWN_1A`: Unknown opcode 0x1A (R161). -/
  | unknown1A (sel1 sel0 : Bool)
  /-- `RD_ID`: Read ID (R196). -/
  | rdId (sel1 sel0 : Bool) (track sector sizeCount : Byte)
  /-- `UNKNOWN_1C`: Unknown opcode 0x1C (R161). -/
  | unknown1C (sel1 sel0 : Bool)
  /-- `UNKNOWN_1D`: Unknown opcode 0x1D (R161). -/
  | unknown1D (sel1 sel0 : Bool)
  /-- `UNKNOWN_1E`: Unknown opcode 0x1E (R161). -/
  | unknown1E (sel1 sel0 : Bool)
  /-- `VERIFY`: Verify sector (R195). -/
  | verify (sel1 sel0 : Bool) (track sector sizeCount : Byte)
  /-- `UNKNOWN_20`: Unknown opcode 0x20 (R161). -/
  | unknown20 (sel1 sel0 : Bool)
  /-- `UNKNOWN_21`: Unknown opcode 0x21 (R161). -/
  | unknown21 (sel1 sel0 : Bool)
  /-- `UNKNOWN_22`: Unknown opcode 0x22 (R161). -/
  | unknown22 (sel1 sel0 : Bool)
  /-- `FORMAT`: Format track (R220, R221). -/
  | format (sel1 sel0 : Bool) (track p1 p2 p3 p4 : Byte)
  /-- `UNKNOWN_24`: Unknown opcode 0x24 (R161). -/
  | unknown24 (sel1 sel0 : Bool)
  /-- `UNKNOWN_25`: Unknown opcode 0x25 (R161). -/
  | unknown25 (sel1 sel0 : Bool)
  /-- `UNKNOWN_26`: Unknown opcode 0x26 (R161). -/
  | unknown26 (sel1 sel0 : Bool)
  /-- `UNKNOWN_27`: Unknown opcode 0x27 (R161). -/
  | unknown27 (sel1 sel0 : Bool)
  /-- `UNKNOWN_28`: Unknown opcode 0x28 (R161). -/
  | unknown28 (sel1 sel0 : Bool)
  /-- `SEEK`: Seek (R181, R182). -/
  | seek (sel1 sel0 : Bool) (track : Byte)
  /-- `UNKNOWN_2A`: Unknown opcode 0x2A (R161). -/
  | unknown2A (sel1 sel0 : Bool)
  /-- `UNKNOWN_2B`: Unknown opcode 0x2B (R161). -/
  | unknown2B (sel1 sel0 : Bool)
  /-- `RD_DRV_STATUS`: Read drive status (R160). -/
  | rdDrvStatus (sel1 sel0 : Bool)
  /-- `UNKNOWN_2D`: Unknown opcode 0x2D (R161). -/
  | unknown2D (sel1 sel0 : Bool)
  /-- `UNKNOWN_2E`: Unknown opcode 0x2E (R161). -/
  | unknown2E (sel1 sel0 : Bool)
  /-- `UNKNOWN_2F`: Unknown opcode 0x2F (R161). -/
  | unknown2F (sel1 sel0 : Bool)
  /-- `UNKNOWN_30`: Unknown opcode 0x30 (R161). -/
  | unknown30 (sel1 sel0 : Bool)
  /-- `UNKNOWN_31`: Unknown opcode 0x31 (R161). -/
  | unknown31 (sel1 sel0 : Bool)
  /-- `UNKNOWN_32`: Unknown opcode 0x32 (R161). -/
  | unknown32 (sel1 sel0 : Bool)
  /-- `UNKNOWN_33`: Unknown opcode 0x33 (R161). -/
  | unknown33 (sel1 sel0 : Bool)
  /-- `UNKNOWN_34`: Unknown opcode 0x34 (R161). -/
  | unknown34 (sel1 sel0 : Bool)
  /-- `SPECIFY`: Specify timing (R163). -/
  | specify (sel1 sel0 : Bool) (key step settle unloadLoad : Byte)
  /-- `UNKNOWN_36`: Unknown opcode 0x36 (R161). -/
  | unknown36 (sel1 sel0 : Bool)
  /-- `UNKNOWN_37`: Unknown opcode 0x37 (R161). -/
  | unknown37 (sel1 sel0 : Bool)
  /-- `UNKNOWN_38`: Unknown opcode 0x38 (R161). -/
  | unknown38 (sel1 sel0 : Bool)
  /-- `UNKNOWN_39`: Unknown opcode 0x39 (R161). -/
  | unknown39 (sel1 sel0 : Bool)
  /-- `WR_SPECIAL`: Write special register (R165). -/
  | wrSpecial (sel1 sel0 : Bool) (index value : Byte)
  /-- `UNKNOWN_3B`: Unknown opcode 0x3B (R161). -/
  | unknown3B (sel1 sel0 : Bool)
  /-- `UNKNOWN_3C`: Unknown opcode 0x3C (R161). -/
  | unknown3C (sel1 sel0 : Bool)
  /-- `RD_SPECIAL`: Read special register (R164). -/
  | rdSpecial (sel1 sel0 : Bool) (index : Byte)
  /-- `UNKNOWN_3E`: Unknown opcode 0x3E (R161). -/
  | unknown3E (sel1 sel0 : Bool)
  /-- `UNKNOWN_3F`: Unknown opcode 0x3F (R161). -/
  | unknown3F (sel1 sel0 : Bool)
  /-- `PORT_READ_STATUS`: host read of port 0 (R120). -/
  | portReadStatus (addr : Nat)
  /-- `PORT_READ_RESULT`: host read of port 1 (R121). -/
  | portReadResult (addr : Nat)
  /-- `PORT_READ_NOP_2`: host read of port 2 (R128). -/
  | portReadNop2 (addr : Nat)
  /-- `PORT_READ_NOP_3`: host read of port 3 (R128). -/
  | portReadNop3 (addr : Nat)
  /-- `PORT_READ_DATA`: host read of port 4 (R122). -/
  | portReadData (addr : Nat)
  /-- `PORT_READ_NOP_5`: host read of port 5 (R128). -/
  | portReadNop5 (addr : Nat)
  /-- `PORT_READ_NOP_6`: host read of port 6 (R128). -/
  | portReadNop6 (addr : Nat)
  /-- `PORT_READ_NOP_7`: host read of port 7 (R128). -/
  | portReadNop7 (addr : Nat)
  /-- `PORT_WRITE_COMMAND`: host write to port 0 (R123). -/
  | portWriteCommand (addr : Nat) (val : Byte)
  /-- `PORT_WRITE_PARAMETER`: host write to port 1 (R124). -/
  | portWriteParameter (addr : Nat) (val : Byte)
  /-- `PORT_WRITE_RESET`: host write to port 2 (R125). -/
  | portWriteReset (addr : Nat) (val : Byte)
  /-- `PORT_WRITE_NOP_3`: host write to port 3 (R127). -/
  | portWriteNop3 (addr : Nat) (val : Byte)
  /-- `PORT_WRITE_DATA`: host write to port 4 (R126). -/
  | portWriteData (addr : Nat) (val : Byte)
  /-- `PORT_WRITE_NOP_5`: host write to port 5 (R127). -/
  | portWriteNop5 (addr : Nat) (val : Byte)
  /-- `PORT_WRITE_NOP_6`: host write to port 6 (R127). -/
  | portWriteNop6 (addr : Nat) (val : Byte)
  /-- `PORT_WRITE_NOP_7`: host write to port 7 (R127). -/
  | portWriteNop7 (addr : Nat) (val : Byte)
deriving DecidableEq, Repr

/-- What the host does at the window. `read` and `write` are the two port accesses (R60, R61, R106); `command` is the
trace notation's pseudo-instruction `CMD` (R109): the bytes of one command, the first written to port 0 and the others to
port 1, in order. -/
inductive HostAction where
  /-- A read of the port at an address. -/
  | read (addr : Nat)
  /-- A write of a byte to the port at an address. -/
  | write (addr : Nat) (val : Byte)
  /-- The bytes of one command, the opcode byte first (R93). -/
  | command (bytes : List Byte)
deriving DecidableEq, Repr

end Sys2Proof
end

