-- ==== Sys2Proof/Decode.lean ====
section
/-! DEFINITION. The decoder, total on any bytes and rejecting by name, and after it the encoder (R90 to R95, R103). -/

namespace Sys2Proof

/-! ## The fields of a command byte (R90, R104) -/

/-- Bit 7 of the command byte: the select bit of drive 1, and the value of `curdrive` (R90). -/
def sel1Field (val : Byte) : Bool := val.getLsbD 7

/-- Bit 6 of the command byte: the select bit of drive 0 (R90). -/
def sel0Field (val : Byte) : Bool := val.getLsbD 6

/-- Bits 5 to 0 of the command byte: the opcode (R90). -/
def opcodeField (val : Byte) : Opcode := val.extractLsb' 0 6

/-- The command byte with the given select bits and opcode (R90, R110). -/
def commandByte (sel1 sel0 : Bool) (opc : Opcode) : Byte :=
  BitVec.ofBool sel1 ++ (BitVec.ofBool sel0 ++ opc)

/-- The value stored in `command` by an accepted command byte: the opcode, with 0x17 normalised to 0x13 (R91). -/
def normalisedOpcode (val : Byte) : Byte :=
  if val &&& 0x3F = 0x17 then 0x13 else val &&& 0x3F

/-- The arity table (R92, R143): how many parameter bytes a normalised opcode takes. -/
def arity (command : Byte) : Nat :=
  match command.toNat with
  | 0x35 => 4
  | 0x29 => 1
  | 0x2C => 0
  | 0x3D => 1
  | 0x3A => 2
  | 0x13 => 3
  | 0x0B => 3
  | 0x1B => 3
  | 0x1F => 3
  | 0x23 => 5
  | _ => 0

/-- The length in bytes of the command that starts with a byte: the opcode byte and its parameters (R93). -/
def commandLength (val : Byte) : Nat := 1 + arity (normalisedOpcode val)

/-- The port an address reaches: "reduced mod 8" (R60, R103). -/
def portOf (addr : Nat) : Port := Fin.ofNat 8 addr

/-! ## The decoder -/

/-- Why the bytes of a host command are not one instruction. -/
inductive DecodeError where
  /-- There is no opcode byte. -/
  | noBytes
  /-- Fewer parameter bytes than the arity table requires of this opcode (R92, R93). -/
  | missingParameters (opc : Opcode)
  /-- More bytes than this opcode's command has (R93). -/
  | trailingBytes (opc : Opcode)
deriving DecidableEq, Repr

/-- A row of the command table: how an instruction is made of the select bits and its parameter bytes. -/
inductive CommandRow where
  | params0 (mk : Bool → Bool → Instr)
  | params1 (mk : Bool → Bool → Byte → Instr)
  | params2 (mk : Bool → Bool → Byte → Byte → Instr)
  | params3 (mk : Bool → Bool → Byte → Byte → Byte → Instr)
  | params4 (mk : Bool → Bool → Byte → Byte → Byte → Byte → Instr)
  | params5 (mk : Bool → Bool → Byte → Byte → Byte → Byte → Byte → Instr)

/-- The rows of opcodes 0x00 to 0x0F (R92, R95). -/
def commandRows0 : List CommandRow :=
  [ .params0 .unknown00, .params0 .unknown01, .params0 .unknown02, .params0 .unknown03,
    .params0 .unknown04, .params0 .unknown05, .params0 .unknown06, .params0 .unknown07,
    .params0 .unknown08, .params0 .unknown09, .params0 .unknown0A, .params3 .wrSector,
    .params0 .unknown0C, .params0 .unknown0D, .params0 .unknown0E, .params0 .unknown0F ]

/-- The rows of opcodes 0x10 to 0x1F (R92, R95). -/
def commandRows1 : List CommandRow :=
  [ .params0 .unknown10, .params0 .unknown11, .params0 .unknown12, .params3 .rdSector,
    .params0 .unknown14, .params0 .unknown15, .params0 .unknown16, .params3 .rdSectorAlias,
    .params0 .unknown18, .params0 .unknown19, .params0 .unknown1A, .params3 .rdId,
    .params0 .unknown1C, .params0 .unknown1D, .params0 .unknown1E, .params3 .verify ]

/-- The rows of opcodes 0x20 to 0x2F (R92, R95). -/
def commandRows2 : List CommandRow :=
  [ .params0 .unknown20, .params0 .unknown21, .params0 .unknown22, .params5 .format,
    .params0 .unknown24, .params0 .unknown25, .params0 .unknown26, .params0 .unknown27,
    .params0 .unknown28, .params1 .seek, .params0 .unknown2A, .params0 .unknown2B,
    .params0 .rdDrvStatus, .params0 .unknown2D, .params0 .unknown2E, .params0 .unknown2F ]

/-- The rows of opcodes 0x30 to 0x3F (R92, R95). -/
def commandRows3 : List CommandRow :=
  [ .params0 .unknown30, .params0 .unknown31, .params0 .unknown32, .params0 .unknown33,
    .params0 .unknown34, .params4 .specify, .params0 .unknown36, .params0 .unknown37,
    .params0 .unknown38, .params0 .unknown39, .params2 .wrSpecial, .params0 .unknown3B,
    .params0 .unknown3C, .params1 .rdSpecial, .params0 .unknown3E, .params0 .unknown3F ]

/-- The 64 rows of format `CMD`, in opcode order (R95: they partition the opcode space). -/
def commandRows : List CommandRow := commandRows0 ++ commandRows1 ++ commandRows2 ++ commandRows3

/-- Every opcode has a row. -/
theorem commandRows_length : commandRows.length = 64 := rfl

/-- The row of an opcode. -/
def commandRow (opc : Opcode) : CommandRow := commandRows[opc.toNat]'opc.isLt

/-- The instruction a row makes of the select bits and the bytes that follow the opcode byte, with the bytes left over. -/
def CommandRow.read (row : CommandRow) (sel1 sel0 : Bool) (opc : Opcode) (rest : List Byte) :
    Except DecodeError (Instr × List Byte) :=
  match row, rest with
  | .params0 mk, ps => .ok (mk sel1 sel0, ps)
  | .params1 mk, p0 :: ps => .ok (mk sel1 sel0 p0, ps)
  | .params2 mk, p0 :: p1 :: ps => .ok (mk sel1 sel0 p0 p1, ps)
  | .params3 mk, p0 :: p1 :: p2 :: ps => .ok (mk sel1 sel0 p0 p1 p2, ps)
  | .params4 mk, p0 :: p1 :: p2 :: p3 :: ps => .ok (mk sel1 sel0 p0 p1 p2 p3, ps)
  | .params5 mk, p0 :: p1 :: p2 :: p3 :: p4 :: ps => .ok (mk sel1 sel0 p0 p1 p2 p3 p4, ps)
  | _, _ => .error (.missingParameters opc)

/-- The instruction at the head of the bytes of a command stream, and the bytes after it (R93: the length is known from
the opcode alone). -/
def decodeCommand (bytes : List Byte) : Except DecodeError (Instr × List Byte) :=
  match bytes with
  | [] => .error .noBytes
  | val :: rest =>
    (commandRow (opcodeField val)).read (sel1Field val) (sel0Field val) (opcodeField val) rest

/-- The instruction of a host read (R61, R103). -/
def decodeRead (addr : Nat) : Instr :=
  match portOf addr with
  | 0 => .portReadStatus addr
  | 1 => .portReadResult addr
  | 2 => .portReadNop2 addr
  | 3 => .portReadNop3 addr
  | 4 => .portReadData addr
  | 5 => .portReadNop5 addr
  | 6 => .portReadNop6 addr
  | 7 => .portReadNop7 addr

/-- The instruction of a host write (R61, R103). -/
def decodeWrite (addr : Nat) (val : Byte) : Instr :=
  match portOf addr with
  | 0 => .portWriteCommand addr val
  | 1 => .portWriteParameter addr val
  | 2 => .portWriteReset addr val
  | 3 => .portWriteNop3 addr val
  | 4 => .portWriteData addr val
  | 5 => .portWriteNop5 addr val
  | 6 => .portWriteNop6 addr val
  | 7 => .portWriteNop7 addr val

/-- The instruction of what the host does: a port access decodes by its port, a command by its bytes, which must be
exactly one command. -/
def decode (a : HostAction) : Except DecodeError Instr :=
  match a with
  | .read addr => .ok (decodeRead addr)
  | .write addr val => .ok (decodeWrite addr val)
  | .command bytes =>
    match decodeCommand bytes with
    | .ok (i, []) => .ok i
    | .ok (_, _ :: _) => .error (.trailingBytes (opcodeField (bytes.headD 0)))
    | .error e => .error e

/-- The bytes of a table word: byte 0 is bits 7 to 0, and so on, six bytes (the longest command, R93), the bits from
`nbits` on read as zero. -/
def tableBytes (nbits w : Nat) : List Byte :=
  (List.range 6).map fun k => BitVec.ofNat 8 ((w % 2 ^ nbits) >>> (8 * k))

/-- The bytes of the one command a table word starts with. -/
def tableCommand (nbits w : Nat) : List Byte :=
  (tableBytes nbits w).take (commandLength (BitVec.ofNat 8 (w % 2 ^ nbits)))

/-- The instruction the decoder reads from a table word laid out as command bytes (log 4: the words of the port rows are
the words of the command rows 0x00 to 0x07). -/
def decodeTableWord (nbits w : Nat) : Option Instr :=
  match decodeCommand (tableBytes nbits w) with
  | .ok (i, _) => some i
  | .error _ => none

/-! ## The encoder -/

/-- What the host does to issue an instruction (R90, R92, R94, R103, R110). -/
def encode (i : Instr) : HostAction :=
  match i with
  | .unknown00 sel1 sel0 => .command [commandByte sel1 sel0 0x00]
  | .unknown01 sel1 sel0 => .command [commandByte sel1 sel0 0x01]
  | .unknown02 sel1 sel0 => .command [commandByte sel1 sel0 0x02]
  | .unknown03 sel1 sel0 => .command [commandByte sel1 sel0 0x03]
  | .unknown04 sel1 sel0 => .command [commandByte sel1 sel0 0x04]
  | .unknown05 sel1 sel0 => .command [commandByte sel1 sel0 0x05]
  | .unknown06 sel1 sel0 => .command [commandByte sel1 sel0 0x06]
  | .unknown07 sel1 sel0 => .command [commandByte sel1 sel0 0x07]
  | .unknown08 sel1 sel0 => .command [commandByte sel1 sel0 0x08]
  | .unknown09 sel1 sel0 => .command [commandByte sel1 sel0 0x09]
  | .unknown0A sel1 sel0 => .command [commandByte sel1 sel0 0x0A]
  | .wrSector sel1 sel0 track sector sizeCount => .command [commandByte sel1 sel0 0x0B, track, sector, sizeCount]
  | .unknown0C sel1 sel0 => .command [commandByte sel1 sel0 0x0C]
  | .unknown0D sel1 sel0 => .command [commandByte sel1 sel0 0x0D]
  | .unknown0E sel1 sel0 => .command [commandByte sel1 sel0 0x0E]
  | .unknown0F sel1 sel0 => .command [commandByte sel1 sel0 0x0F]
  | .unknown10 sel1 sel0 => .command [commandByte sel1 sel0 0x10]
  | .unknown11 sel1 sel0 => .command [commandByte sel1 sel0 0x11]
  | .unknown12 sel1 sel0 => .command [commandByte sel1 sel0 0x12]
  | .rdSector sel1 sel0 track sector sizeCount => .command [commandByte sel1 sel0 0x13, track, sector, sizeCount]
  | .unknown14 sel1 sel0 => .command [commandByte sel1 sel0 0x14]
  | .unknown15 sel1 sel0 => .command [commandByte sel1 sel0 0x15]
  | .unknown16 sel1 sel0 => .command [commandByte sel1 sel0 0x16]
  | .rdSectorAlias sel1 sel0 track sector sizeCount => .command [commandByte sel1 sel0 0x17, track, sector, sizeCount]
  | .unknown18 sel1 sel0 => .command [commandByte sel1 sel0 0x18]
  | .unknown19 sel1 sel0 => .command [commandByte sel1 sel0 0x19]
  | .unknown1A sel1 sel0 => .command [commandByte sel1 sel0 0x1A]
  | .rdId sel1 sel0 track sector sizeCount => .command [commandByte sel1 sel0 0x1B, track, sector, sizeCount]
  | .unknown1C sel1 sel0 => .command [commandByte sel1 sel0 0x1C]
  | .unknown1D sel1 sel0 => .command [commandByte sel1 sel0 0x1D]
  | .unknown1E sel1 sel0 => .command [commandByte sel1 sel0 0x1E]
  | .verify sel1 sel0 track sector sizeCount => .command [commandByte sel1 sel0 0x1F, track, sector, sizeCount]
  | .unknown20 sel1 sel0 => .command [commandByte sel1 sel0 0x20]
  | .unknown21 sel1 sel0 => .command [commandByte sel1 sel0 0x21]
  | .unknown22 sel1 sel0 => .command [commandByte sel1 sel0 0x22]
  | .format sel1 sel0 track p1 p2 p3 p4 => .command [commandByte sel1 sel0 0x23, track, p1, p2, p3, p4]
  | .unknown24 sel1 sel0 => .command [commandByte sel1 sel0 0x24]
  | .unknown25 sel1 sel0 => .command [commandByte sel1 sel0 0x25]
  | .unknown26 sel1 sel0 => .command [commandByte sel1 sel0 0x26]
  | .unknown27 sel1 sel0 => .command [commandByte sel1 sel0 0x27]
  | .unknown28 sel1 sel0 => .command [commandByte sel1 sel0 0x28]
  | .seek sel1 sel0 track => .command [commandByte sel1 sel0 0x29, track]
  | .unknown2A sel1 sel0 => .command [commandByte sel1 sel0 0x2A]
  | .unknown2B sel1 sel0 => .command [commandByte sel1 sel0 0x2B]
  | .rdDrvStatus sel1 sel0 => .command [commandByte sel1 sel0 0x2C]
  | .unknown2D sel1 sel0 => .command [commandByte sel1 sel0 0x2D]
  | .unknown2E sel1 sel0 => .command [commandByte sel1 sel0 0x2E]
  | .unknown2F sel1 sel0 => .command [commandByte sel1 sel0 0x2F]
  | .unknown30 sel1 sel0 => .command [commandByte sel1 sel0 0x30]
  | .unknown31 sel1 sel0 => .command [commandByte sel1 sel0 0x31]
  | .unknown32 sel1 sel0 => .command [commandByte sel1 sel0 0x32]
  | .unknown33 sel1 sel0 => .command [commandByte sel1 sel0 0x33]
  | .unknown34 sel1 sel0 => .command [commandByte sel1 sel0 0x34]
  | .specify sel1 sel0 key step settle unloadLoad => .command [commandByte sel1 sel0 0x35, key, step, settle, unloadLoad]
  | .unknown36 sel1 sel0 => .command [commandByte sel1 sel0 0x36]
  | .unknown37 sel1 sel0 => .command [commandByte sel1 sel0 0x37]
  | .unknown38 sel1 sel0 => .command [commandByte sel1 sel0 0x38]
  | .unknown39 sel1 sel0 => .command [commandByte sel1 sel0 0x39]
  | .wrSpecial sel1 sel0 index value => .command [commandByte sel1 sel0 0x3A, index, value]
  | .unknown3B sel1 sel0 => .command [commandByte sel1 sel0 0x3B]
  | .unknown3C sel1 sel0 => .command [commandByte sel1 sel0 0x3C]
  | .rdSpecial sel1 sel0 index => .command [commandByte sel1 sel0 0x3D, index]
  | .unknown3E sel1 sel0 => .command [commandByte sel1 sel0 0x3E]
  | .unknown3F sel1 sel0 => .command [commandByte sel1 sel0 0x3F]
  | .portReadStatus addr => .read addr
  | .portReadResult addr => .read addr
  | .portReadNop2 addr => .read addr
  | .portReadNop3 addr => .read addr
  | .portReadData addr => .read addr
  | .portReadNop5 addr => .read addr
  | .portReadNop6 addr => .read addr
  | .portReadNop7 addr => .read addr
  | .portWriteCommand addr val => .write addr val
  | .portWriteParameter addr val => .write addr val
  | .portWriteReset addr val => .write addr val
  | .portWriteNop3 addr val => .write addr val
  | .portWriteData addr val => .write addr val
  | .portWriteNop5 addr val => .write addr val
  | .portWriteNop6 addr val => .write addr val
  | .portWriteNop7 addr val => .write addr val

end Sys2Proof
end

