-- ==== Sys2Proof/Machine/State.lean ====
section
/-! DEFINITION. The state of the FDC core as plain data, the events that act on it, the lines of its output trace, the
reasons a step can stop, and the state after reset (10_state.md, R106, R108, R310). -/

namespace Sys2Proof.Machine

/-- The coarse sub-state of a disc command (R24): `zero` is "operation just issued", `one` "operation looping". -/
inductive Phase where
  | zero
  | one
deriving DecidableEq, Repr

/-- The side a request addresses: the value 0 or 1 of `side` (00_scope.md section 5). -/
inductive Side where
  | zero
  | one
deriving DecidableEq, Repr

/-- The complete set of events the block reacts to (R106). -/
inductive Event where
  /-- `POWERON` (R310). -/
  | powerOn
  /-- A host access `R p` or `W p,v`, or the pseudo-instruction `CMD` (R106, R109). -/
  | host (a : HostAction)
  /-- `TICK`, the timer callback (R250). -/
  | timerCallback
  /-- `MOTOROFF`, the motor-off event (R235). -/
  | motorOff
  /-- `PUT b`: the collaborator hands over a byte read from the disc (R252). -/
  | putData (b : Byte)
  /-- `GET`: the collaborator asks for a byte to write to the disc (R253). -/
  | getData (isLast : Bool)
  /-- `OK` or `OK.D`: found and transferred (R254). -/
  | success (deleted : Bool)
  /-- `NF`: sector or track not found (R279). -/
  | notFound
  /-- `HCRC`: header CRC error (R280). -/
  | headerCRC
  /-- `DCRC` or `DCRC.D`: data CRC error (R281). -/
  | dataCRC (deleted : Bool)
  /-- `WP`: write protected (R282). -/
  | writeProtect
deriving DecidableEq, Repr

/-- An output event: a collaborator operation the block calls (`emit`), with its arguments (R74, R79). -/
inductive Output where
  | setDriveActive (drive : Drive) (active : Bool)
  | audioSpinUp
  | audioSpinDown
  | driveSpinUp (drive : Drive)
  | driveSpinDown (drive : Drive)
  | seekToZero (drive : Drive) (stepTime settleTime : Nat)
  | seekRelative (drive : Drive) (delta : Int) (stepTime settleTime : Nat)
  | readSector (drive : Drive) (sector : Nat) (track : Byte) (side : Side) (density : Density)
  | writeSector (drive : Drive) (sector : Nat) (track : Byte) (side : Side) (density : Density)
  | readAddress (drive : Drive) (track : Byte) (side : Side) (density : Density)
  | format (drive : Drive) (track : Byte) (side : Side) (fillPattern : Byte)
deriving DecidableEq, Repr

/-- A line of the trace (R108): an event handled, an event emitted, or a value handed back. -/
inductive Line where
  /-- The event whose rule follows. -/
  | event (e : Event)
  /-- An output event, written after `=>`. -/
  | emit (o : Output)
  /-- `R p -> v`: the byte a port read returns to the host (R120 to R122, R128). -/
  | returned (v : Byte)
  /-- `GET -> v`: the byte `get_data` returns to the collaborator (R253). -/
  | gave (v : Byte)
  /-- `GET -> NW`: the not-written signal (R253). -/
  | notWritten
deriving DecidableEq, Repr

/-- The state of the block (10_state.md section 1) and, last, two fields of the model's own. -/
structure State where
  /-- The current opcode, 0xFF after reset (R20). -/
  command : Byte
  /-- The parameter slots (R21). -/
  params : Params
  /-- Parameter bytes stored since the last accepted command (R22). -/
  paramnum : Nat
  /-- Parameter bytes the current command requires (R23). -/
  paramreq : Nat
  /-- The status register (R26, R96). -/
  status : Byte
  /-- The result register (R27, R98). -/
  result : Byte
  /-- The head position of each drive (R30). -/
  curtrack : Vector Nat 2
  /-- The sector of the request in progress (R31). -/
  cursector : Nat
  /-- The sectors still to transfer; it may go below zero (R32). -/
  sectorsleft : Int
  /-- Bookkeeping that no rule reads (R33). -/
  bytesleft : Nat
  /-- The one-byte transfer buffer (R28). -/
  data : Byte
  /-- The host has deposited a byte not yet consumed (R29). -/
  written : Bool
  /-- The phase of the disc command (R24). -/
  phase : Phase
  /-- The drive-select and side-select bits (R34, R99). -/
  drvout : Byte
  /-- Revolutions before a normal spindown (R35). -/
  unloadRevs : Nat
  /-- The step time, in simulated cycles (R35). -/
  stepTime : Nat
  /-- The settle time, in simulated cycles (R35). -/
  settleTime : Nat
  /-- The load time, in simulated cycles; no rule reads it (R35). -/
  loadTime : Nat
  /-- The drive the current command addresses (R36). -/
  curdrive : Drive
  /-- The motor-on flag (R37). -/
  motoron : Bool
  /-- Cycles until the timer callback; 0 requests none (R38). -/
  timer : Nat
  /-- The scheduled motor-off event: `none`, or `some n` for `pending(n)` (R39). -/
  spindown : Option Nat
  /-- A deleted-data mark was seen since the command started (R40). -/
  deletedLatch : Bool
  /-- The model's own: the external events still to come, in the order they occur (R44, R70; log 1). -/
  inbox : List Event
  /-- The model's own: the trace so far, oldest line first; no rule of the block reads it (R44, R108; log 2). -/
  trace : List Line
deriving DecidableEq, Repr

/-- Why the machine stops with a fault: never. "Nothing is thrown across component boundaries" (60_exceptions.md): every
failure is a write of `result` and `status`, which is a next state. So the type is empty (safe; log 13). -/
inductive Fault where
deriving DecidableEq, Repr

/-- Why a step is refused. -/
inductive Refusal where
  /-- Raised by `exec` for an instruction that has no meaning yet (safe: the step has no next state). -/
  | notModelled (mnemonic : String)
  /-- Raised by the step when the bytes of a host's pseudo-instruction `CMD` are not one whole command (R93, R109; log 12).
  Safe: the same bytes can be issued as port writes, which are never refused. -/
  | notOneCommand (reason : DecodeError)
  /-- Raised by the step when an event is not enabled: `TICK` with `timer = 0`, `MOTOROFF` with no spindown pending, or
  `POWERON` after any other event (R72, R314; log 6, log 17). Safe: such an event does not occur. -/
  | notEnabled (e : Event)
deriving DecidableEq, Repr

/-- The machine right after reset: every field of the block at the value of R310, no event to come and an empty trace. -/
def State.reset : State where
  command := 0xFF
  params := #v[0x00, 0x00, 0x00, 0x00, 0x00]
  paramnum := 0
  paramreq := 0
  status := 0x00
  result := 0x00
  curtrack := #v[0, 0]
  cursector := 0
  sectorsleft := 0
  bytesleft := 0
  data := 0x00
  written := false
  phase := .zero
  drvout := 0x00
  unloadRevs := 0
  stepTime := 0
  settleTime := 0
  loadTime := 0
  curdrive := 0
  motoron := false
  timer := 0
  spindown := none
  deletedLatch := false
  inbox := []
  trace := []

end Sys2Proof.Machine
end

