-- ==== Sys2Proof/Machine/Flags.lean ====
section
/-! DEFINITION. The status bits and patterns, the interrupt line, and the drive-status byte (R96, R97, R102, R270). -/

namespace Sys2Proof.Machine

/-- `ST_RESULT | ST_IRQ`, the group a read of port 1 clears (R121, R129). -/
def resultGroup : Byte := 0x18

/-- `ST_IRQ | ST_DATA`, the group a read or a write of port 4 clears (R122, R126, R129). -/
def dataGroup : Byte := 0x0C

/-- The idle pattern (R97). -/
def statusIdle : Byte := 0x00

/-- The busy pattern, `ST_BUSY` (R97). -/
def statusBusy : Byte := 0x80

/-- The data-ready pattern, `ST_BUSY | ST_IRQ | ST_DATA` (R97). -/
def statusDataReady : Byte := 0x8C

/-- The ready pattern, `ST_RESULT` (R97). -/
def statusReady : Byte := 0x10

/-- The terminal and error pattern, `ST_RESULT | ST_IRQ` (R97). -/
def statusTerminal : Byte := 0x18

/-- `status[7]`, a command is in flight (R96). -/
def busy (s : State) : Bool := s.status.getLsbD 7

/-- The interrupt output, asserted exactly when `status[3] = 1` (R41, R270). -/
def irq (s : State) : Bool := s.status.getLsbD 3

/-- `status` with a group of bits cleared (R129). -/
def clearGroup (group : Byte) (s : State) : State := { s with status := s.status &&& ~~~group }

/-- The Read-drive-status result (R102): the base bits, the track-zero flag of the current drive and the two select flags
of `drvout`. -/
def driveStatus (s : State) : Byte :=
  Config.rdsBase
    ||| (if s.curtrack[s.curdrive] = 0 then Config.rdsTrk0 else 0)
    ||| (if s.drvout.getLsbD 6 then Config.rdsSel0 else 0)
    ||| (if s.drvout.getLsbD 7 then Config.rdsSel1 else 0)

end Sys2Proof.Machine
end

