-- ==== Sys2Proof/Machine/Operands.lean ====
section
/-! DEFINITION. The operands the commands assemble from parameter bytes and registers, by masking and shifting, all
unsigned but for the seek distance (R104). -/

namespace Sys2Proof.Machine

/-- `DRIVESEL_MASK`: the two drive-select bits (R9). -/
def driveselMask : Byte := 0xC0

/-- The drive of a command byte: its bit 7 (R90). -/
def driveOf (val : Byte) : Drive := if sel1Field val then 1 else 0

/-- `drvout` with its select bits taken from a command byte (R141 step 2). -/
def selectBits (drvout val : Byte) : Byte := (drvout &&& ~~~driveselMask) ||| (val &&& driveselMask)

/-- The sector count, bits 4 to 0 of the size byte (R94, R104). -/
def sectorCount (sizeCount : Byte) : Nat := (sizeCount &&& 31).toNat

/-- The sector length, 128 shifted by the size code in bits 7 to 5 of the size byte (R33, R104). -/
def sectorLength (sizeCount : Byte) : Nat := 128 <<< (sizeCount >>> 5).toNat

/-- A step or settle time: a byte times `STEP_UNIT` (R8, R94). -/
def timeOf (b : Byte) : Nat := b.toNat * 2000

/-- The unload revolutions, the high nibble (R94). -/
def unloadField (b : Byte) : Nat := (b >>> 4).toNat

/-- The load time: the low nibble times `LOAD_UNIT` (R94). -/
def loadTimeOf (b : Byte) : Nat := (b &&& 15).toNat * 4000

/-- The side a request addresses: the side-select bit of `drvout` (R34, R99). -/
def side (s : State) : Side := if s.drvout &&& Config.sideselMask ≠ 0 then .one else .zero

/-- The signed seek distance `params[0] - curtrack[curdrive]`, exact (R104, R180). -/
def seekDistance (s : State) : Int := (s.params[0].toNat : Int) - (s.curtrack[s.curdrive] : Int)

/-- The addressed track differs from the current one: an implied seek is needed (R183, R190). -/
def offTrack (s : State) : Bool := s.params[0].toNat != s.curtrack[s.curdrive]

end Sys2Proof.Machine
end

