-- ==== Sys2Proof/Machine/Ops.lean ====
section
/-! DEFINITION. The operations the meanings share: the trace, the registers, the status patterns, the motor, and taking an
error completion with the return from one. -/

namespace Sys2Proof.Machine

/-! ## The trace (R108) -/

/-- Write a line of the trace. -/
def note (l : Line) (s : State) : State := { s with trace := s.trace ++ [l] }

/-- `emit o`: call a collaborator's operation; no state of the block changes (00_scope.md section 5). -/
def emit (o : Output) (s : State) : State := note (.emit o) s

/-- `return v` from a port read: the host gets the byte. -/
def returnByte (v : Byte) (s : State) : State := note (.returned v) s

/-! ## Registers -/

/-- `curtrack[d] <- v`. -/
def setTrack (d : Drive) (v : Nat) (s : State) : State := { s with curtrack := s.curtrack.set d v }

/-- `params[paramnum] <- val; paramnum <- paramnum + 1`, only while `paramnum < 5`: a byte beyond the fifth slot is dropped
(R145, R147). -/
def storeParam (val : Byte) (s : State) : State :=
  if h : s.paramnum < 5 then { s with params := s.params.set s.paramnum val h, paramnum := s.paramnum + 1 } else s

/-! ## Status patterns (R97) -/

/-- `DataReady()`. -/
def dataReady (s : State) : State := { s with status := statusDataReady }

/-- `Ready()`. -/
def ready (s : State) : State := { s with status := statusReady }

/-- The completion of `SPECIFY` and `WR_SPECIAL`: `status <- 0x00`. -/
def complete (s : State) : State := { s with status := statusIdle }

/-! ## The motor -/

/-- `SpinUp(d)` (R230): disarm a pending spindown; if the motor was off, turn it on and tell the collaborators. -/
def spinUp (d : Drive) (s : State) : State :=
  let s := { s with spindown := none }
  if s.motoron then s
  else emit (.driveSpinUp 1) (emit (.driveSpinUp 0) (emit .audioSpinUp (emit (.setDriveActive d true)
    { s with motoron := true })))

/-- `SpinDown()` (R231): if the motor was on, turn it off, tell the collaborators and clear the select bits. -/
def spinDown (s : State) : State :=
  if s.motoron then
    let s := emit (.driveSpinDown 1) (emit (.driveSpinDown 0) (emit .audioSpinDown (emit (.setDriveActive 1 false)
      (emit (.setDriveActive 0 false) { s with motoron := false }))))
    { s with drvout := s.drvout &&& ~~~driveselMask }
  else s

/-- `SpindownNormal()` (R232). -/
def spindownNormal (s : State) : State := { s with spindown := some (s.unloadRevs * Config.revCycles) }

/-- `SpindownShort()` (R233). -/
def spindownShort (s : State) : State := { s with spindown := some Config.tSpindownShort }

/-! ## Completions (60_exceptions.md) -/

/-- `Terminal()`, the normal completion of a disc command (R276). -/
def terminal (s : State) : State :=
  { s with status := statusTerminal, result := if s.deletedLatch then 0x20 else 0x00, deletedLatch := false }

/-- Taking an error completion, the block's "trap entry" (R286): the code goes to `result`, the pattern 0x18 to `status`
(busy clears, `IRQ` asserts) and the timer is cleared. -/
def errorCompletion (code : Byte) (s : State) : State :=
  { s with result := code, status := statusTerminal, timer := 0 }

/-- The return from a completion (R287): the host's read of port 1 takes the code and clears `ST_RESULT` and `ST_IRQ`
(R121). -/
def acknowledgeResult (s : State) : State := returnByte s.result (clearGroup resultGroup s)

/-- `UnknownCommand()` (R277). -/
def unknownCommand (s : State) : State := errorCompletion 0x18 s

/-- `ErrorOutcome(code)`, the common part of the four error notifications (R278); ignored in the reset state (R78). -/
def errorOutcome (code : Byte) (s : State) : State :=
  if s.command = 0xFF then s
  else spindownShort { errorCompletion code s with deletedLatch := false }

end Sys2Proof.Machine
end

