-- ==== Sys2Proof/Machine/Seek.lean ====
section
/-! DEFINITION. The seek helper, and the start and the completion of the Seek command (43_seek_command.md). -/

namespace Sys2Proof.Machine

/-- `Seek()` (R180): emit the seek request and arm the timer for its completion. -/
def seek (s : State) : State :=
  if s.params[0] = 0 then
    { emit (.seekToZero s.curdrive s.stepTime s.settleTime) s with
      timer := Config.seekDelay s.curtrack[s.curdrive] s.stepTime s.settleTime }
  else
    { emit (.seekRelative s.curdrive (seekDistance s) s.stepTime s.settleTime) s with
      timer := Config.seekDelay (seekDistance s).natAbs s.stepTime s.settleTime }

/-- `SeekStart()` (R181). -/
def seekStart (s : State) : State := spinUp s.curdrive (seek s)

/-- The timer-callback arm of `SEEK`, its completion (R182). -/
def seekDone (s : State) : State := spindownNormal (terminal (setTrack s.curdrive s.params[0].toNat s))

/-- What `SectorStart()` and `FormatStart()` end with (R190, R220): an implied seek (R183) if the addressed track differs
from the current one, else the short delay. -/
def seekOrDelay (s : State) : State := if offTrack s then seek s else { s with timer := Config.tShort }

/-- `PhaseZeroEntry()` (R194). -/
def phaseZeroEntry (s : State) : State := { setTrack s.curdrive s.params[0].toNat s with phase := .one }

end Sys2Proof.Machine
end

