-- ==== Sys2Proof/Machine/Format.lean ====
section
/-! DEFINITION. The start and the timer-callback arm of Format track (45_format_command.md). -/

namespace Sys2Proof.Machine

/-- `FormatStart()` (R220). -/
def formatStart (s : State) : State := seekOrDelay { spinUp s.curdrive s with phase := .zero }

/-- The request of a Format: the format, then data-ready (R221, R222). -/
def formatRequest (s : State) : State :=
  dataReady (emit (.format s.curdrive s.params[0] (side s) (Config.formatFill s.params)) s)

/-- The arm of `FORMAT` (R221); its completion schedules no spindown. -/
def formatArm (s : State) : State :=
  match s.phase with
  | .zero => formatRequest (phaseZeroEntry s)
  | .one => terminal s

end Sys2Proof.Machine
end

