-- ==== Sys2Proof/Machine/Reset.lean ====
section
/-! DEFINITION. The two resets (70_reset_and_hazards.md section 1). -/

namespace Sys2Proof.Machine

/-- Power-on (R310): every field of the block at its reset value. The events to come and the trace are the outside's and
stay (log 2). -/
def powerOn (s : State) : State := { State.reset with inbox := s.inbox, trace := s.trace }

/-- `ControllerReset()` (R311): as power-on, but `motoron` and `spindown` keep their values; nothing is emitted. -/
def controllerReset (s : State) : State := { powerOn s with motoron := s.motoron, spindown := s.spindown }

end Sys2Proof.Machine
end

