-- ==== Sys2Proof/Machine/Sector.lean ====
section
/-! DEFINITION. The four sector commands: their common start and their timer-callback arms (44_sector_commands.md). -/

namespace Sys2Proof.Machine

/-- `SectorStart()` (R190); only Read sector loads `bytesleft`. -/
def sectorStart (s : State) : State :=
  let s := { s with
    sectorsleft := sectorCount s.params[2]
    cursector := s.params[1].toNat
    bytesleft := if s.command = 0x13 then sectorLength s.params[2] else s.bytesleft }
  seekOrDelay { spinUp s.curdrive s with phase := .zero }

/-- The shape of a sector command's timer-callback arm (R192, R193, R195, R196): phase 0 issues the first request; phase 1
counts a sector, and ends the operation at zero or else goes on to the next sector, whose registers `reload` prepares. -/
def sectorArm (request reload : State → State) (s : State) : State :=
  match s.phase with
  | .zero => request (phaseZeroEntry s)
  | .one =>
    let s := { s with sectorsleft := s.sectorsleft - 1 }
    if s.sectorsleft = 0 then spindownNormal (terminal s)
    else request (reload { s with cursector := s.cursector + 1 })

/-- The request of a Write sector: the write, then data-ready (R192). -/
def writeRequest (s : State) : State :=
  dataReady (emit (.writeSector s.curdrive s.cursector s.params[0] (side s) Config.density) s)

/-- The request of a Read sector and of a Verify (R193, R195). -/
def readRequest (s : State) : State :=
  emit (.readSector s.curdrive s.cursector s.params[0] (side s) Config.density) s

/-- The request of a Read ID (R196). -/
def addressRequest (s : State) : State :=
  emit (.readAddress s.curdrive s.params[0] (side s) Config.density) s

/-- The arm of `WR_SECTOR` (R192). -/
def writeSectorArm (s : State) : State := sectorArm writeRequest id s

/-- The arm of `RD_SECTOR` (R193). -/
def readSectorArm (s : State) : State :=
  sectorArm readRequest (fun s => { s with bytesleft := sectorLength s.params[2] }) s

/-- The arm of `VERIFY` (R195). -/
def verifyArm (s : State) : State := sectorArm readRequest id s

/-- The arm of `RD_ID` (R196). -/
def readIdArm (s : State) : State := sectorArm addressRequest (fun s => { s with bytesleft := 4 }) s

end Sys2Proof.Machine
end

