-- ==== Sys2Proof/Machine/Callbacks.lean ====
section
/-! DEFINITION. The events that are not host accesses: the scheduler's two, and the collaborator's byte transfers and
notifications (R235, 47_data_transfer_and_success.md, R279 to R282). -/

namespace Sys2Proof.Machine

/-- `TimerCallback()` (R250): clear the timer, then the arm of the current command. -/
def timerCallback (s : State) : State :=
  let s := { s with timer := 0 }
  match s.command.toNat with
  | 0x0B => writeSectorArm s
  | 0x13 => readSectorArm s
  | 0x1F => verifyArm s
  | 0x1B => readIdArm s
  | 0x23 => formatArm s
  | 0x29 => seekDone s
  | _ => s

/-- The motor-off event (R235). -/
def motorOff (s : State) : State := spinDown { s with spindown := none }

/-- `put_data(b)` (R252): nothing in the reset state or during a Verify. -/
def putData (b : Byte) (s : State) : State :=
  if s.command = 0xFF ∨ s.command = 0x1F then s else dataReady { s with data := b }

/-- `get_data(is_last)` (R253). -/
def getData (isLast : Bool) (s : State) : State :=
  if s.command = 0xFF then note .notWritten s
  else if s.written = false then note .notWritten s
  else
    let s := { s with written := false }
    let s := if isLast then s else dataReady s
    note (.gave s.data) s

/-- `Success(deleted)` (R254). -/
def success (deleted : Bool) (s : State) : State :=
  if s.command = 0xFF then s
  else { s with deletedLatch := if deleted then true else s.deletedLatch, timer := Config.tShort }

/-- `NotFound` (R279). -/
def notFound (s : State) : State := errorOutcome 0x18 s

/-- `HeaderCRC` (R280). -/
def headerCRC (s : State) : State := errorOutcome 0x0C s

/-- `DataCRC(deleted)` (R281): bit 5 comes from the notification's own flag. -/
def dataCRC (deleted : Bool) (s : State) : State := errorOutcome (if deleted then 0x2E else 0x0E) s

/-- `WriteProtect` (R282). -/
def writeProtect (s : State) : State := errorOutcome 0x12 s

/-- No event has been handled yet: every event handled leaves its line in the trace (R108; log 17). -/
def nothingYet (s : State) : Bool := s.trace.isEmpty

/-- Whether an event can occur (R72): power-on once, before anything else; the scheduler's two when they were asked for; a host
access always. The rules of the collaborator's calls are total, and the block tests nothing for them (log 7, log 14). -/
def enabled (e : Event) (s : State) : Bool :=
  match e with
  | .powerOn => nothingYet s
  | .timerCallback => 0 < s.timer
  | .motorOff => s.spindown.isSome
  | _ => true

end Sys2Proof.Machine
end

