-- ==== Sys2Proof/Machine/Synchronous.lean ====
section
/-! DEFINITION. What the four synchronous commands do when their parameters are complete (42_synchronous_commands.md). -/

namespace Sys2Proof.Machine

/-- `ReadDriveStatus()` (R160). -/
def readDriveStatus (s : State) : State := { ready s with result := driveStatus s }

/-- `Specify()` (R163): the timing registers change only under the key 0x0D; busy clears in any case. -/
def specify (s : State) : State :=
  complete
    (if s.params[0] = 0x0D then
      { s with
        stepTime := timeOf s.params[1]
        settleTime := timeOf s.params[2]
        unloadRevs := unloadField s.params[3]
        loadTime := loadTimeOf s.params[3] }
    else s)

/-- `ReadSpecial()` (R164). A track register of 256 or more, which no run reaches (R30), reads as its low eight bits
(log 8). -/
def readSpecial (s : State) : State :=
  if s.params[0] = Config.srTrack0 then { ready s with result := BitVec.ofNat 8 s.curtrack[0] }
  else if s.params[0] = Config.srTrack1 then { ready s with result := BitVec.ofNat 8 s.curtrack[1] }
  else if s.params[0] = Config.srDrvout then { ready s with result := s.drvout }
  else unknownCommand s

/-- `WriteSpecial()` (R165). -/
def writeSpecial (s : State) : State :=
  if s.params[0] = Config.srTrack0 then complete (setTrack 0 s.params[1].toNat s)
  else if s.params[0] = Config.srTrack1 then complete (setTrack 1 s.params[1].toNat s)
  else if s.params[0] = Config.srDrvout then complete { s with drvout := s.params[1] }
  else if s.params[0] ∈ Config.srWriteIgnored then complete s
  else unknownCommand s

end Sys2Proof.Machine
end

