-- ==== Sys2Proof/Machine/Collector.lean ====
section
/-! DEFINITION. The command dispatcher, the parameter collector and the host's issue of a whole command
(41_parameter_collector_and_dispatch.md, R109). -/

namespace Sys2Proof.Machine

/-- Steps 1 to 4 of `Dispatch(val)` (R141): the acceptance of a command byte. -/
def accept (val : Byte) (s : State) : State :=
  let command := normalisedOpcode val
  let s := { s with
    command := command
    drvout := if command < 0x2C then selectBits s.drvout val else s.drvout
    curdrive := driveOf val }
  let s := emit (.setDriveActive s.curdrive true) s
  { s with paramnum := 0, paramreq := arity command, status := statusBusy, deletedLatch := false }

/-- `Dispatch(val)` (R141): acceptance, and the execution at once of a command without parameters. -/
def acceptCommand (val : Byte) (s : State) : State :=
  let s := accept val s
  if s.paramreq = 0 then (if s.command = 0x2C then readDriveStatus s else unknownCommand s) else s

/-- A host write to port 0 (R123, R140): ignored while busy. -/
def writeCommand (val : Byte) (s : State) : State := if busy s then s else acceptCommand val s

/-- `Execute()` (R146). Its last arm is never reached by a run; the spec keeps it. -/
def execute (s : State) : State :=
  match s.command.toNat with
  | 0x35 => specify s
  | 0x3D => readSpecial s
  | 0x3A => writeSpecial s
  | 0x29 => seekStart s
  | 0x0B => sectorStart s
  | 0x13 => sectorStart s
  | 0x1F => sectorStart s
  | 0x1B => sectorStart s
  | 0x23 => formatStart s
  | _ => unknownCommand s

/-- `CollectParameter(val)` (R145): every host write to port 1, with no guard on busy or on a collection window. -/
def collectParameter (val : Byte) (s : State) : State :=
  let s := storeParam val s
  if s.paramnum = s.paramreq then execute s else s

/-- The pseudo-instruction `CMD` (R109): the opcode byte written to port 0, then the parameter bytes to port 1, in order.
The host does not test busy here: a rejected opcode byte leaves the parameter bytes to the command in flight (R320). -/
def issueCommand (val : Byte) (ps : List Byte) (s : State) : State :=
  ps.foldl (fun s p => collectParameter p s) (writeCommand val s)

end Sys2Proof.Machine
end

