-- ==== Sys2Proof/Machine/Commands.lean ====
section
/-! DEFINITION. The meanings of the eleven known commands: the host's writes of the command's bytes, back to back (R93, R109). -/

namespace Sys2Proof.Machine

/-- `WR_SECTOR` (R190, R192). -/
def execWrSector (sel1 sel0 : Bool) (track sector sizeCount : Byte) (s : State) : Host.Outcome State Fault Refusal :=
  .next (issueCommand (commandByte sel1 sel0 0x0B) [track, sector, sizeCount] s)

/-- `RD_SECTOR` (R190, R193). -/
def execRdSector (sel1 sel0 : Bool) (track sector sizeCount : Byte) (s : State) : Host.Outcome State Fault Refusal :=
  .next (issueCommand (commandByte sel1 sel0 0x13) [track, sector, sizeCount] s)

/-- `RD_SECTOR_ALIAS` (R91, R191). -/
def execRdSectorAlias (sel1 sel0 : Bool) (track sector sizeCount : Byte)
    (s : State) : Host.Outcome State Fault Refusal :=
  .next (issueCommand (commandByte sel1 sel0 0x17) [track, sector, sizeCount] s)

/-- `RD_ID` (R190, R196). -/
def execRdId (sel1 sel0 : Bool) (track sector sizeCount : Byte) (s : State) : Host.Outcome State Fault Refusal :=
  .next (issueCommand (commandByte sel1 sel0 0x1B) [track, sector, sizeCount] s)

/-- `VERIFY` (R190, R195). -/
def execVerify (sel1 sel0 : Bool) (track sector sizeCount : Byte) (s : State) : Host.Outcome State Fault Refusal :=
  .next (issueCommand (commandByte sel1 sel0 0x1F) [track, sector, sizeCount] s)

/-- `FORMAT` (R220). -/
def execFormat (sel1 sel0 : Bool) (track p1 p2 p3 p4 : Byte) (s : State) : Host.Outcome State Fault Refusal :=
  .next (issueCommand (commandByte sel1 sel0 0x23) [track, p1, p2, p3, p4] s)

/-- `SEEK` (R181). -/
def execSeek (sel1 sel0 : Bool) (track : Byte) (s : State) : Host.Outcome State Fault Refusal :=
  .next (issueCommand (commandByte sel1 sel0 0x29) [track] s)

/-- `RD_DRV_STATUS` (R160). -/
def execRdDrvStatus (sel1 sel0 : Bool) (s : State) : Host.Outcome State Fault Refusal :=
  .next (issueCommand (commandByte sel1 sel0 0x2C) [] s)

/-- `SPECIFY` (R163). -/
def execSpecify (sel1 sel0 : Bool) (key step settle unloadLoad : Byte)
    (s : State) : Host.Outcome State Fault Refusal :=
  .next (issueCommand (commandByte sel1 sel0 0x35) [key, step, settle, unloadLoad] s)

/-- `WR_SPECIAL` (R165). -/
def execWrSpecial (sel1 sel0 : Bool) (index value : Byte) (s : State) : Host.Outcome State Fault Refusal :=
  .next (issueCommand (commandByte sel1 sel0 0x3A) [index, value] s)

/-- `RD_SPECIAL` (R164). -/
def execRdSpecial (sel1 sel0 : Bool) (index : Byte) (s : State) : Host.Outcome State Fault Refusal :=
  .next (issueCommand (commandByte sel1 sel0 0x3D) [index] s)

end Sys2Proof.Machine
end

