-- ==== Sys2Proof/Machine/Ports.lean ====
section
/-! DEFINITION. The meanings of the sixteen port accesses (40_register_interface.md). The address has done its work when the
instruction is decoded. -/

namespace Sys2Proof.Machine

/-- `PORT_READ_STATUS` (R120). -/
def execPortReadStatus (_ : Nat) (s : State) : Host.Outcome State Fault Refusal :=
  .next (returnByte s.status s)

/-- `PORT_READ_RESULT` (R121). -/
def execPortReadResult (_ : Nat) (s : State) : Host.Outcome State Fault Refusal :=
  .next (acknowledgeResult s)

/-- `PORT_READ_NOP_2` (R128). -/
def execPortReadNop2 (_ : Nat) (s : State) : Host.Outcome State Fault Refusal :=
  .next (returnByte 0x00 s)

/-- `PORT_READ_NOP_3` (R128). -/
def execPortReadNop3 (_ : Nat) (s : State) : Host.Outcome State Fault Refusal :=
  .next (returnByte 0x00 s)

/-- `PORT_READ_DATA` (R122). -/
def execPortReadData (_ : Nat) (s : State) : Host.Outcome State Fault Refusal :=
  .next (returnByte s.data (clearGroup dataGroup s))

/-- `PORT_READ_NOP_5` (R128). -/
def execPortReadNop5 (_ : Nat) (s : State) : Host.Outcome State Fault Refusal :=
  .next (returnByte 0x00 s)

/-- `PORT_READ_NOP_6` (R128). -/
def execPortReadNop6 (_ : Nat) (s : State) : Host.Outcome State Fault Refusal :=
  .next (returnByte 0x00 s)

/-- `PORT_READ_NOP_7` (R128). -/
def execPortReadNop7 (_ : Nat) (s : State) : Host.Outcome State Fault Refusal :=
  .next (returnByte 0x00 s)

/-- `PORT_WRITE_COMMAND` (R123). -/
def execPortWriteCommand (_ : Nat) (val : Byte) (s : State) : Host.Outcome State Fault Refusal :=
  .next (writeCommand val s)

/-- `PORT_WRITE_PARAMETER` (R124). -/
def execPortWriteParameter (_ : Nat) (val : Byte) (s : State) : Host.Outcome State Fault Refusal :=
  .next (collectParameter val s)

/-- `PORT_WRITE_RESET` (R125). -/
def execPortWriteReset (_ : Nat) (val : Byte) (s : State) : Host.Outcome State Fault Refusal :=
  .next (if val.getLsbD 0 then controllerReset s else s)

/-- `PORT_WRITE_NOP_3` (R127). -/
def execPortWriteNop3 (_ : Nat) (_ : Byte) (s : State) : Host.Outcome State Fault Refusal :=
  .next s

/-- `PORT_WRITE_DATA` (R126). -/
def execPortWriteData (_ : Nat) (val : Byte) (s : State) : Host.Outcome State Fault Refusal :=
  .next (clearGroup dataGroup { s with data := val, written := true })

/-- `PORT_WRITE_NOP_5` (R127). -/
def execPortWriteNop5 (_ : Nat) (_ : Byte) (s : State) : Host.Outcome State Fault Refusal :=
  .next s

/-- `PORT_WRITE_NOP_6` (R127). -/
def execPortWriteNop6 (_ : Nat) (_ : Byte) (s : State) : Host.Outcome State Fault Refusal :=
  .next s

/-- `PORT_WRITE_NOP_7` (R127). -/
def execPortWriteNop7 (_ : Nat) (_ : Byte) (s : State) : Host.Outcome State Fault Refusal :=
  .next s

end Sys2Proof.Machine
end

