-- ==== Sys2Proof/Machine/Unknown.lean ====
section
/-! DEFINITION. The meanings of the 53 unknown opcodes: the host's write of the opcode byte, which takes the unknown-command pattern
(R95, R161). -/

namespace Sys2Proof.Machine

/-- `UNKNOWN_00` (R161). -/
def execUnknown00 (sel1 sel0 : Bool) (s : State) : Host.Outcome State Fault Refusal :=
  .next (issueCommand (commandByte sel1 sel0 0x00) [] s)

/-- `UNKNOWN_01` (R161). -/
def execUnknown01 (sel1 sel0 : Bool) (s : State) : Host.Outcome State Fault Refusal :=
  .next (issueCommand (commandByte sel1 sel0 0x01) [] s)

/-- `UNKNOWN_02` (R161). -/
def execUnknown02 (sel1 sel0 : Bool) (s : State) : Host.Outcome State Fault Refusal :=
  .next (issueCommand (commandByte sel1 sel0 0x02) [] s)

/-- `UNKNOWN_03` (R161). -/
def execUnknown03 (sel1 sel0 : Bool) (s : State) : Host.Outcome State Fault Refusal :=
  .next (issueCommand (commandByte sel1 sel0 0x03) [] s)

/-- `UNKNOWN_04` (R161). -/
def execUnknown04 (sel1 sel0 : Bool) (s : State) : Host.Outcome State Fault Refusal :=
  .next (issueCommand (commandByte sel1 sel0 0x04) [] s)

/-- `UNKNOWN_05` (R161). -/
def execUnknown05 (sel1 sel0 : Bool) (s : State) : Host.Outcome State Fault Refusal :=
  .next (issueCommand (commandByte sel1 sel0 0x05) [] s)

/-- `UNKNOWN_06` (R161). -/
def execUnknown06 (sel1 sel0 : Bool) (s : State) : Host.Outcome State Fault Refusal :=
  .next (issueCommand (commandByte sel1 sel0 0x06) [] s)

/-- `UNKNOWN_07` (R161). -/
def execUnknown07 (sel1 sel0 : Bool) (s : State) : Host.Outcome State Fault Refusal :=
  .next (issueCommand (commandByte sel1 sel0 0x07) [] s)

/-- `UNKNOWN_08` (R161). -/
def execUnknown08 (sel1 sel0 : Bool) (s : State) : Host.Outcome State Fault Refusal :=
  .next (issueCommand (commandByte sel1 sel0 0x08) [] s)

/-- `UNKNOWN_09` (R161). -/
def execUnknown09 (sel1 sel0 : Bool) (s : State) : Host.Outcome State Fault Refusal :=
  .next (issueCommand (commandByte sel1 sel0 0x09) [] s)

/-- `UNKNOWN_0A` (R161). -/
def execUnknown0A (sel1 sel0 : Bool) (s : State) : Host.Outcome State Fault Refusal :=
  .next (issueCommand (commandByte sel1 sel0 0x0A) [] s)

/-- `UNKNOWN_0C` (R161). -/
def execUnknown0C (sel1 sel0 : Bool) (s : State) : Host.Outcome State Fault Refusal :=
  .next (issueCommand (commandByte sel1 sel0 0x0C) [] s)

/-- `UNKNOWN_0D` (R161). -/
def execUnknown0D (sel1 sel0 : Bool) (s : State) : Host.Outcome State Fault Refusal :=
  .next (issueCommand (commandByte sel1 sel0 0x0D) [] s)

/-- `UNKNOWN_0E` (R161). -/
def execUnknown0E (sel1 sel0 : Bool) (s : State) : Host.Outcome State Fault Refusal :=
  .next (issueCommand (commandByte sel1 sel0 0x0E) [] s)

/-- `UNKNOWN_0F` (R161). -/
def execUnknown0F (sel1 sel0 : Bool) (s : State) : Host.Outcome State Fault Refusal :=
  .next (issueCommand (commandByte sel1 sel0 0x0F) [] s)

/-- `UNKNOWN_10` (R161). -/
def execUnknown10 (sel1 sel0 : Bool) (s : State) : Host.Outcome State Fault Refusal :=
  .next (issueCommand (commandByte sel1 sel0 0x10) [] s)

/-- `UNKNOWN_11` (R161). -/
def execUnknown11 (sel1 sel0 : Bool) (s : State) : Host.Outcome State Fault Refusal :=
  .next (issueCommand (commandByte sel1 sel0 0x11) [] s)

/-- `UNKNOWN_12` (R161). -/
def execUnknown12 (sel1 sel0 : Bool) (s : State) : Host.Outcome State Fault Refusal :=
  .next (issueCommand (commandByte sel1 sel0 0x12) [] s)

/-- `UNKNOWN_14` (R161). -/
def execUnknown14 (sel1 sel0 : Bool) (s : State) : Host.Outcome State Fault Refusal :=
  .next (issueCommand (commandByte sel1 sel0 0x14) [] s)

/-- `UNKNOWN_15` (R161). -/
def execUnknown15 (sel1 sel0 : Bool) (s : State) : Host.Outcome State Fault Refusal :=
  .next (issueCommand (commandByte sel1 sel0 0x15) [] s)

/-- `UNKNOWN_16` (R161). -/
def execUnknown16 (sel1 sel0 : Bool) (s : State) : Host.Outcome State Fault Refusal :=
  .next (issueCommand (commandByte sel1 sel0 0x16) [] s)

/-- `UNKNOWN_18` (R161). -/
def execUnknown18 (sel1 sel0 : Bool) (s : State) : Host.Outcome State Fault Refusal :=
  .next (issueCommand (commandByte sel1 sel0 0x18) [] s)

/-- `UNKNOWN_19` (R161). -/
def execUnknown19 (sel1 sel0 : Bool) (s : State) : Host.Outcome State Fault Refusal :=
  .next (issueCommand (commandByte sel1 sel0 0x19) [] s)

/-- `UNKNOWN_1A` (R161). -/
def execUnknown1A (sel1 sel0 : Bool) (s : State) : Host.Outcome State Fault Refusal :=
  .next (issueCommand (commandByte sel1 sel0 0x1A) [] s)

/-- `UNKNOWN_1C` (R161). -/
def execUnknown1C (sel1 sel0 : Bool) (s : State) : Host.Outcome State Fault Refusal :=
  .next (issueCommand (commandByte sel1 sel0 0x1C) [] s)

/-- `UNKNOWN_1D` (R161). -/
def execUnknown1D (sel1 sel0 : Bool) (s : State) : Host.Outcome State Fault Refusal :=
  .next (issueCommand (commandByte sel1 sel0 0x1D) [] s)

/-- `UNKNOWN_1E` (R161). -/
def execUnknown1E (sel1 sel0 : Bool) (s : State) : Host.Outcome State Fault Refusal :=
  .next (issueCommand (commandByte sel1 sel0 0x1E) [] s)

/-- `UNKNOWN_20` (R161). -/
def execUnknown20 (sel1 sel0 : Bool) (s : State) : Host.Outcome State Fault Refusal :=
  .next (issueCommand (commandByte sel1 sel0 0x20) [] s)

/-- `UNKNOWN_21` (R161). -/
def execUnknown21 (sel1 sel0 : Bool) (s : State) : Host.Outcome State Fault Refusal :=
  .next (issueCommand (commandByte sel1 sel0 0x21) [] s)

/-- `UNKNOWN_22` (R161). -/
def execUnknown22 (sel1 sel0 : Bool) (s : State) : Host.Outcome State Fault Refusal :=
  .next (issueCommand (commandByte sel1 sel0 0x22) [] s)

/-- `UNKNOWN_24` (R161). -/
def execUnknown24 (sel1 sel0 : Bool) (s : State) : Host.Outcome State Fault Refusal :=
  .next (issueCommand (commandByte sel1 sel0 0x24) [] s)

/-- `UNKNOWN_25` (R161). -/
def execUnknown25 (sel1 sel0 : Bool) (s : State) : Host.Outcome State Fault Refusal :=
  .next (issueCommand (commandByte sel1 sel0 0x25) [] s)

/-- `UNKNOWN_26` (R161). -/
def execUnknown26 (sel1 sel0 : Bool) (s : State) : Host.Outcome State Fault Refusal :=
  .next (issueCommand (commandByte sel1 sel0 0x26) [] s)

/-- `UNKNOWN_27` (R161). -/
def execUnknown27 (sel1 sel0 : Bool) (s : State) : Host.Outcome State Fault Refusal :=
  .next (issueCommand (commandByte sel1 sel0 0x27) [] s)

/-- `UNKNOWN_28` (R161). -/
def execUnknown28 (sel1 sel0 : Bool) (s : State) : Host.Outcome State Fault Refusal :=
  .next (issueCommand (commandByte sel1 sel0 0x28) [] s)

/-- `UNKNOWN_2A` (R161). -/
def execUnknown2A (sel1 sel0 : Bool) (s : State) : Host.Outcome State Fault Refusal :=
  .next (issueCommand (commandByte sel1 sel0 0x2A) [] s)

/-- `UNKNOWN_2B` (R161). -/
def execUnknown2B (sel1 sel0 : Bool) (s : State) : Host.Outcome State Fault Refusal :=
  .next (issueCommand (commandByte sel1 sel0 0x2B) [] s)

/-- `UNKNOWN_2D` (R161). -/
def execUnknown2D (sel1 sel0 : Bool) (s : State) : Host.Outcome State Fault Refusal :=
  .next (issueCommand (commandByte sel1 sel0 0x2D) [] s)

/-- `UNKNOWN_2E` (R161). -/
def execUnknown2E (sel1 sel0 : Bool) (s : State) : Host.Outcome State Fault Refusal :=
  .next (issueCommand (commandByte sel1 sel0 0x2E) [] s)

/-- `UNKNOWN_2F` (R161). -/
def execUnknown2F (sel1 sel0 : Bool) (s : State) : Host.Outcome State Fault Refusal :=
  .next (issueCommand (commandByte sel1 sel0 0x2F) [] s)

/-- `UNKNOWN_30` (R161). -/
def execUnknown30 (sel1 sel0 : Bool) (s : State) : Host.Outcome State Fault Refusal :=
  .next (issueCommand (commandByte sel1 sel0 0x30) [] s)

/-- `UNKNOWN_31` (R161). -/
def execUnknown31 (sel1 sel0 : Bool) (s : State) : Host.Outcome State Fault Refusal :=
  .next (issueCommand (commandByte sel1 sel0 0x31) [] s)

/-- `UNKNOWN_32` (R161). -/
def execUnknown32 (sel1 sel0 : Bool) (s : State) : Host.Outcome State Fault Refusal :=
  .next (issueCommand (commandByte sel1 sel0 0x32) [] s)

/-- `UNKNOWN_33` (R161). -/
def execUnknown33 (sel1 sel0 : Bool) (s : State) : Host.Outcome State Fault Refusal :=
  .next (issueCommand (commandByte sel1 sel0 0x33) [] s)

/-- `UNKNOWN_34` (R161). -/
def execUnknown34 (sel1 sel0 : Bool) (s : State) : Host.Outcome State Fault Refusal :=
  .next (issueCommand (commandByte sel1 sel0 0x34) [] s)

/-- `UNKNOWN_36` (R161). -/
def execUnknown36 (sel1 sel0 : Bool) (s : State) : Host.Outcome State Fault Refusal :=
  .next (issueCommand (commandByte sel1 sel0 0x36) [] s)

/-- `UNKNOWN_37` (R161). -/
def execUnknown37 (sel1 sel0 : Bool) (s : State) : Host.Outcome State Fault Refusal :=
  .next (issueCommand (commandByte sel1 sel0 0x37) [] s)

/-- `UNKNOWN_38` (R161). -/
def execUnknown38 (sel1 sel0 : Bool) (s : State) : Host.Outcome State Fault Refusal :=
  .next (issueCommand (commandByte sel1 sel0 0x38) [] s)

/-- `UNKNOWN_39` (R161). -/
def execUnknown39 (sel1 sel0 : Bool) (s : State) : Host.Outcome State Fault Refusal :=
  .next (issueCommand (commandByte sel1 sel0 0x39) [] s)

/-- `UNKNOWN_3B` (R161). -/
def execUnknown3B (sel1 sel0 : Bool) (s : State) : Host.Outcome State Fault Refusal :=
  .next (issueCommand (commandByte sel1 sel0 0x3B) [] s)

/-- `UNKNOWN_3C` (R161). -/
def execUnknown3C (sel1 sel0 : Bool) (s : State) : Host.Outcome State Fault Refusal :=
  .next (issueCommand (commandByte sel1 sel0 0x3C) [] s)

/-- `UNKNOWN_3E` (R161). -/
def execUnknown3E (sel1 sel0 : Bool) (s : State) : Host.Outcome State Fault Refusal :=
  .next (issueCommand (commandByte sel1 sel0 0x3E) [] s)

/-- `UNKNOWN_3F` (R161). -/
def execUnknown3F (sel1 sel0 : Bool) (s : State) : Host.Outcome State Fault Refusal :=
  .next (issueCommand (commandByte sel1 sel0 0x3F) [] s)

end Sys2Proof.Machine
end

