-- ==== Sys2Proof/Machine/Dispatch.lean ====
section
/-! DEFINITION. The dispatch of an instruction to its meaning, one arm per row of spec/opcode_table.json. -/

namespace Sys2Proof.Machine

def exec (i : Instr) (s : State) : Host.Outcome State Fault Refusal :=
  match i with
  | .unknown00 sel1 sel0 => Sys2Proof.Machine.execUnknown00 sel1 sel0 s
  | .unknown01 sel1 sel0 => Sys2Proof.Machine.execUnknown01 sel1 sel0 s
  | .unknown02 sel1 sel0 => Sys2Proof.Machine.execUnknown02 sel1 sel0 s
  | .unknown03 sel1 sel0 => Sys2Proof.Machine.execUnknown03 sel1 sel0 s
  | .unknown04 sel1 sel0 => Sys2Proof.Machine.execUnknown04 sel1 sel0 s
  | .unknown05 sel1 sel0 => Sys2Proof.Machine.execUnknown05 sel1 sel0 s
  | .unknown06 sel1 sel0 => Sys2Proof.Machine.execUnknown06 sel1 sel0 s
  | .unknown07 sel1 sel0 => Sys2Proof.Machine.execUnknown07 sel1 sel0 s
  | .unknown08 sel1 sel0 => Sys2Proof.Machine.execUnknown08 sel1 sel0 s
  | .unknown09 sel1 sel0 => Sys2Proof.Machine.execUnknown09 sel1 sel0 s
  | .unknown0A sel1 sel0 => Sys2Proof.Machine.execUnknown0A sel1 sel0 s
  | .wrSector sel1 sel0 track sector sizeCount => Sys2Proof.Machine.execWrSector sel1 sel0 track sector sizeCount s
  | .unknown0C sel1 sel0 => Sys2Proof.Machine.execUnknown0C sel1 sel0 s
  | .unknown0D sel1 sel0 => Sys2Proof.Machine.execUnknown0D sel1 sel0 s
  | .unknown0E sel1 sel0 => Sys2Proof.Machine.execUnknown0E sel1 sel0 s
  | .unknown0F sel1 sel0 => Sys2Proof.Machine.execUnknown0F sel1 sel0 s
  | .unknown10 sel1 sel0 => Sys2Proof.Machine.execUnknown10 sel1 sel0 s
  | .unknown11 sel1 sel0 => Sys2Proof.Machine.execUnknown11 sel1 sel0 s
  | .unknown12 sel1 sel0 => Sys2Proof.Machine.execUnknown12 sel1 sel0 s
  | .rdSector sel1 sel0 track sector sizeCount => Sys2Proof.Machine.execRdSector sel1 sel0 track sector sizeCount s
  | .unknown14 sel1 sel0 => Sys2Proof.Machine.execUnknown14 sel1 sel0 s
  | .unknown15 sel1 sel0 => Sys2Proof.Machine.execUnknown15 sel1 sel0 s
  | .unknown16 sel1 sel0 => Sys2Proof.Machine.execUnknown16 sel1 sel0 s
  | .rdSectorAlias sel1 sel0 track sector sizeCount => Sys2Proof.Machine.execRdSectorAlias sel1 sel0 track sector sizeCount s
  | .unknown18 sel1 sel0 => Sys2Proof.Machine.execUnknown18 sel1 sel0 s
  | .unknown19 sel1 sel0 => Sys2Proof.Machine.execUnknown19 sel1 sel0 s
  | .unknown1A sel1 sel0 => Sys2Proof.Machine.execUnknown1A sel1 sel0 s
  | .rdId sel1 sel0 track sector sizeCount => Sys2Proof.Machine.execRdId sel1 sel0 track sector sizeCount s
  | .unknown1C sel1 sel0 => Sys2Proof.Machine.execUnknown1C sel1 sel0 s
  | .unknown1D sel1 sel0 => Sys2Proof.Machine.execUnknown1D sel1 sel0 s
  | .unknown1E sel1 sel0 => Sys2Proof.Machine.execUnknown1E sel1 sel0 s
  | .verify sel1 sel0 track sector sizeCount => Sys2Proof.Machine.execVerify sel1 sel0 track sector sizeCount s
  | .unknown20 sel1 sel0 => Sys2Proof.Machine.execUnknown20 sel1 sel0 s
  | .unknown21 sel1 sel0 => Sys2Proof.Machine.execUnknown21 sel1 sel0 s
  | .unknown22 sel1 sel0 => Sys2Proof.Machine.execUnknown22 sel1 sel0 s
  | .format sel1 sel0 track p1 p2 p3 p4 => Sys2Proof.Machine.execFormat sel1 sel0 track p1 p2 p3 p4 s
  | .unknown24 sel1 sel0 => Sys2Proof.Machine.execUnknown24 sel1 sel0 s
  | .unknown25 sel1 sel0 => Sys2Proof.Machine.execUnknown25 sel1 sel0 s
  | .unknown26 sel1 sel0 => Sys2Proof.Machine.execUnknown26 sel1 sel0 s
  | .unknown27 sel1 sel0 => Sys2Proof.Machine.execUnknown27 sel1 sel0 s
  | .unknown28 sel1 sel0 => Sys2Proof.Machine.execUnknown28 sel1 sel0 s
  | .seek sel1 sel0 track => Sys2Proof.Machine.execSeek sel1 sel0 track s
  | .unknown2A sel1 sel0 => Sys2Proof.Machine.execUnknown2A sel1 sel0 s
  | .unknown2B sel1 sel0 => Sys2Proof.Machine.execUnknown2B sel1 sel0 s
  | .rdDrvStatus sel1 sel0 => Sys2Proof.Machine.execRdDrvStatus sel1 sel0 s
  | .unknown2D sel1 sel0 => Sys2Proof.Machine.execUnknown2D sel1 sel0 s
  | .unknown2E sel1 sel0 => Sys2Proof.Machine.execUnknown2E sel1 sel0 s
  | .unknown2F sel1 sel0 => Sys2Proof.Machine.execUnknown2F sel1 sel0 s
  | .unknown30 sel1 sel0 => Sys2Proof.Machine.execUnknown30 sel1 sel0 s
  | .unknown31 sel1 sel0 => Sys2Proof.Machine.execUnknown31 sel1 sel0 s
  | .unknown32 sel1 sel0 => Sys2Proof.Machine.execUnknown32 sel1 sel0 s
  | .unknown33 sel1 sel0 => Sys2Proof.Machine.execUnknown33 sel1 sel0 s
  | .unknown34 sel1 sel0 => Sys2Proof.Machine.execUnknown34 sel1 sel0 s
  | .specify sel1 sel0 key step settle unloadLoad => Sys2Proof.Machine.execSpecify sel1 sel0 key step settle unloadLoad s
  | .unknown36 sel1 sel0 => Sys2Proof.Machine.execUnknown36 sel1 sel0 s
  | .unknown37 sel1 sel0 => Sys2Proof.Machine.execUnknown37 sel1 sel0 s
  | .unknown38 sel1 sel0 => Sys2Proof.Machine.execUnknown38 sel1 sel0 s
  | .unknown39 sel1 sel0 => Sys2Proof.Machine.execUnknown39 sel1 sel0 s
  | .wrSpecial sel1 sel0 index value => Sys2Proof.Machine.execWrSpecial sel1 sel0 index value s
  | .unknown3B sel1 sel0 => Sys2Proof.Machine.execUnknown3B sel1 sel0 s
  | .unknown3C sel1 sel0 => Sys2Proof.Machine.execUnknown3C sel1 sel0 s
  | .rdSpecial sel1 sel0 index => Sys2Proof.Machine.execRdSpecial sel1 sel0 index s
  | .unknown3E sel1 sel0 => Sys2Proof.Machine.execUnknown3E sel1 sel0 s
  | .unknown3F sel1 sel0 => Sys2Proof.Machine.execUnknown3F sel1 sel0 s
  | .portReadStatus addr => Sys2Proof.Machine.execPortReadStatus addr s
  | .portReadResult addr => Sys2Proof.Machine.execPortReadResult addr s
  | .portReadNop2 addr => Sys2Proof.Machine.execPortReadNop2 addr s
  | .portReadNop3 addr => Sys2Proof.Machine.execPortReadNop3 addr s
  | .portReadData addr => Sys2Proof.Machine.execPortReadData addr s
  | .portReadNop5 addr => Sys2Proof.Machine.execPortReadNop5 addr s
  | .portReadNop6 addr => Sys2Proof.Machine.execPortReadNop6 addr s
  | .portReadNop7 addr => Sys2Proof.Machine.execPortReadNop7 addr s
  | .portWriteCommand addr val => Sys2Proof.Machine.execPortWriteCommand addr val s
  | .portWriteParameter addr val => Sys2Proof.Machine.execPortWriteParameter addr val s
  | .portWriteReset addr val => Sys2Proof.Machine.execPortWriteReset addr val s
  | .portWriteNop3 addr val => Sys2Proof.Machine.execPortWriteNop3 addr val s
  | .portWriteData addr val => Sys2Proof.Machine.execPortWriteData addr val s
  | .portWriteNop5 addr val => Sys2Proof.Machine.execPortWriteNop5 addr val s
  | .portWriteNop6 addr val => Sys2Proof.Machine.execPortWriteNop6 addr val s
  | .portWriteNop7 addr val => Sys2Proof.Machine.execPortWriteNop7 addr val s

end Sys2Proof.Machine
end

