-- ==== Sys2Proof/Machine/Step.lean ====
section
/-! DEFINITION. One step of the machine: the next event, run to the end of its rule (R13, R68). -/

namespace Sys2Proof.Machine

/-- The rule of an event (R106). A host action is decoded and its instruction executed; every other event has its own
operation. -/
def handle (e : Event) (s : State) : Host.Outcome State Fault Refusal :=
  match e with
  | .powerOn => .next (powerOn s)
  | .host a =>
    match decode a with
    | .ok i => exec i s
    | .error reason => .refused (.notOneCommand reason)
  | .timerCallback => .next (timerCallback s)
  | .motorOff => .next (motorOff s)
  | .putData b => .next (putData b s)
  | .getData isLast => .next (getData isLast s)
  | .success deleted => .next (success deleted s)
  | .notFound => .next (notFound s)
  | .headerCRC => .next (headerCRC s)
  | .dataCRC deleted => .next (dataCRC deleted s)
  | .writeProtect => .next (writeProtect s)

/-- The state in which the rule of the next event starts: the event is taken from the inbox and written in the trace. -/
def State.take (e : Event) (rest : List Event) (s : State) : State :=
  { s with inbox := rest, trace := s.trace ++ [.event e] }

/-- One step: take the next event and run its rule. With no event to handle the block does nothing (R313); an event
that is not enabled is refused (R72). -/
def step (s : State) : Host.Outcome State Fault Refusal :=
  match s.inbox with
  | [] => .next s
  | e :: rest => if enabled e s then handle e (s.take e rest) else .refused (.notEnabled e)

/-- The state with the command that starts at bit 0 of a table word as the host's next action (log 1, log 4). -/
def State.withFetchWord (s : State) (nbits w : Nat) : State :=
  { s with inbox := .host (.command (tableCommand nbits w)) :: s.inbox }

end Sys2Proof.Machine
end

