-- ==== Sys2Proof/WellFormed.lean ====
section
/-! DEFINITION. When an instruction is well formed: a port instruction's address reaches its port. -/

namespace Sys2Proof

/-- A port row needs an address whose low three bits are its port (R60, R103). A command row is well formed at every value
of its operands: all four select combinations and every value of every parameter byte are accepted (R90, R95). -/
def wellFormed (i : Instr) : Bool :=
  match i with
  | .unknown00 _ _ => true
  | .unknown01 _ _ => true
  | .unknown02 _ _ => true
  | .unknown03 _ _ => true
  | .unknown04 _ _ => true
  | .unknown05 _ _ => true
  | .unknown06 _ _ => true
  | .unknown07 _ _ => true
  | .unknown08 _ _ => true
  | .unknown09 _ _ => true
  | .unknown0A _ _ => true
  | .wrSector _ _ _ _ _ => true
  | .unknown0C _ _ => true
  | .unknown0D _ _ => true
  | .unknown0E _ _ => true
  | .unknown0F _ _ => true
  | .unknown10 _ _ => true
  | .unknown11 _ _ => true
  | .unknown12 _ _ => true
  | .rdSector _ _ _ _ _ => true
  | .unknown14 _ _ => true
  | .unknown15 _ _ => true
  | .unknown16 _ _ => true
  | .rdSectorAlias _ _ _ _ _ => true
  | .unknown18 _ _ => true
  | .unknown19 _ _ => true
  | .unknown1A _ _ => true
  | .rdId _ _ _ _ _ => true
  | .unknown1C _ _ => true
  | .unknown1D _ _ => true
  | .unknown1E _ _ => true
  | .verify _ _ _ _ _ => true
  | .unknown20 _ _ => true
  | .unknown21 _ _ => true
  | .unknown22 _ _ => true
  | .format _ _ _ _ _ _ _ => true
  | .unknown24 _ _ => true
  | .unknown25 _ _ => true
  | .unknown26 _ _ => true
  | .unknown27 _ _ => true
  | .unknown28 _ _ => true
  | .seek _ _ _ => true
  | .unknown2A _ _ => true
  | .unknown2B _ _ => true
  | .rdDrvStatus _ _ => true
  | .unknown2D _ _ => true
  | .unknown2E _ _ => true
  | .unknown2F _ _ => true
  | .unknown30 _ _ => true
  | .unknown31 _ _ => true
  | .unknown32 _ _ => true
  | .unknown33 _ _ => true
  | .unknown34 _ _ => true
  | .specify _ _ _ _ _ _ => true
  | .unknown36 _ _ => true
  | .unknown37 _ _ => true
  | .unknown38 _ _ => true
  | .unknown39 _ _ => true
  | .wrSpecial _ _ _ _ => true
  | .unknown3B _ _ => true
  | .unknown3C _ _ => true
  | .rdSpecial _ _ _ => true
  | .unknown3E _ _ => true
  | .unknown3F _ _ => true
  | .portReadStatus addr => portOf addr == 0
  | .portReadResult addr => portOf addr == 1
  | .portReadNop2 addr => portOf addr == 2
  | .portReadNop3 addr => portOf addr == 3
  | .portReadData addr => portOf addr == 4
  | .portReadNop5 addr => portOf addr == 5
  | .portReadNop6 addr => portOf addr == 6
  | .portReadNop7 addr => portOf addr == 7
  | .portWriteCommand addr _ => portOf addr == 0
  | .portWriteParameter addr _ => portOf addr == 1
  | .portWriteReset addr _ => portOf addr == 2
  | .portWriteNop3 addr _ => portOf addr == 3
  | .portWriteData addr _ => portOf addr == 4
  | .portWriteNop5 addr _ => portOf addr == 5
  | .portWriteNop6 addr _ => portOf addr == 6
  | .portWriteNop7 addr _ => portOf addr == 7

end Sys2Proof
end

