-- ==== Sys2Proof/Safety.lean ====
section
/-! DEFINITION. What counts as a legal state and as an admissible event, in the terms the statements use: the ranges of the
registers (10_state.md), the environment's contract (R76, R77, R320, R321) and the requests it leaves outstanding; and the
two invariants built on them. No rule of the block reads anything of this file. -/

namespace Sys2Proof.Machine

/-! ## Legal states -/

/-- The reachable values of `status` (R26). -/
def statusValues : List Byte := [0x00, 0x10, 0x18, 0x80, 0x84, 0x8C]

/-- The ranges the spec gives the registers, in every state a run reaches (10_state.md). -/
structure Legal (s : State) : Prop where
  /-- `command` is a normalised opcode or the reset sentinel (R20). -/
  command_range : s.command = 0xFF ∨ (s.command < 0x40 ∧ s.command ≠ 0x17)
  /-- `0 ≤ paramnum ≤ 5` (R22). -/
  paramnum_le : s.paramnum ≤ 5
  /-- `paramreq` is the arity of the current command (R23). -/
  paramreq_eq : s.paramreq = arity s.command
  /-- `status` has one of its six values (R26). -/
  status_mem : s.status ∈ statusValues
  /-- Both track registers hold a byte's value (R30). -/
  curtrack_le : s.curtrack[0] ≤ 255 ∧ s.curtrack[1] ≤ 255
  /-- `sectorsleft` is below 32 (R32). -/
  sectorsleft_lt : s.sectorsleft < 32
  /-- `bytesleft` is 0, 4 or a sector length (R33). -/
  bytesleft_range : s.bytesleft = 0 ∨ s.bytesleft = 4 ∨ ∃ k < 8, s.bytesleft = 128 * 2 ^ k
  /-- `unload_revs` is a nibble (R35). -/
  unloadRevs_le : s.unloadRevs ≤ 15
  /-- `step_time` is 2000 times a byte (R35). -/
  stepTime_range : ∃ k ≤ 255, s.stepTime = k * 2000
  /-- `settle_time` is 2000 times a byte (R35). -/
  settleTime_range : ∃ k ≤ 255, s.settleTime = k * 2000
  /-- `load_time` is 4000 times a nibble (R35). -/
  loadTime_range : ∃ k ≤ 15, s.loadTime = k * 4000

/-! ## Outstanding requests (R76) -/

/-- The requests that become outstanding: a seek request never does (R76). -/
def isTransferRequest (o : Output) : Bool :=
  match o with
  | .readSector .. => true
  | .writeSector .. => true
  | .readAddress .. => true
  | .format .. => true
  | _ => false

/-- The event is one of the five outcome notifications (R75). -/
def isOutcome (e : Event) : Bool :=
  match e with
  | .success _ => true
  | .notFound => true
  | .headerCRC => true
  | .dataCRC _ => true
  | .writeProtect => true
  | _ => false

/-- The event resets the block: power-on, or a write to port 2 with bit 0 set (R310, R311). -/
def isReset (e : Event) : Bool :=
  match e with
  | .powerOn => true
  | .host (.write addr val) => portOf addr == 2 && val.getLsbD 0
  | _ => false

/-- How a line of the trace changes the outstanding requests, oldest first: an emitted request becomes outstanding, an
outcome notification ends the oldest (R76), and a reset drops them all (the first option of entry U2; log 15). -/
def outstandingAfter (pending : List Output) (l : Line) : List Output :=
  match l with
  | .emit o => if isTransferRequest o then pending ++ [o] else pending
  | .event e => if isReset e then [] else if isOutcome e then pending.tail else pending
  | _ => pending

/-- The requests outstanding in a state: the environment's state, computed from the trace. -/
def outstanding (s : State) : List Output := s.trace.foldl outstandingAfter []

/-! ## The environment's contract -/

/-- A command is collecting parameters (R25). -/
def collecting (s : State) : Bool := busy s && decide (s.paramnum < s.paramreq)

/-- The events that a host and a collaborator that keep the contract cause: a notification or a byte-transfer call only
while a request is outstanding (R77 (a)) or in the reset state, where it is ignored (R78); a port-1 write only inside a
collection window (R321); a whole command only when not busy (R320); power-on only before anything else (R72). -/
def Admissible (e : Event) (s : State) : Prop :=
  match e with
  | .powerOn => nothingYet s = true
  | .host (.write addr _) => portOf addr = 1 → collecting s = true
  | .host (.command _) => busy s = false
  | .putData _ => outstanding s ≠ [] ∨ s.command = 0xFF
  | .getData _ => outstanding s ≠ [] ∨ s.command = 0xFF
  | .success _ => outstanding s ≠ [] ∨ s.command = 0xFF
  | .notFound => outstanding s ≠ [] ∨ s.command = 0xFF
  | .headerCRC => outstanding s ≠ [] ∨ s.command = 0xFF
  | .dataCRC _ => outstanding s ≠ [] ∨ s.command = 0xFF
  | .writeProtect => outstanding s ≠ [] ∨ s.command = 0xFF
  | _ => True

/-- The invariant of R43, with what a step needs to keep it. -/
structure InFlight (s : State) : Prop where
  /-- `timer > 0` implies `status[7] = 1` (R43). -/
  timer_busy : 0 < s.timer → busy s = true
  /-- An outstanding request implies `status[7] = 1` and `timer = 0` (R43). -/
  outstanding_busy : outstanding s ≠ [] → busy s = true ∧ s.timer = 0
  /-- `status[2] = 1` implies `status[7] = 1` (R43). -/
  data_busy : s.status.getLsbD 2 = true → busy s = true
  /-- `status[4] = 1` implies `status[7] = 0` (R43). -/
  result_idle : s.status.getLsbD 4 = true → busy s = false
  /-- At most one request is outstanding. -/
  at_most_one : (outstanding s).length ≤ 1
  /-- `paramnum ≤ paramreq` (R22). -/
  paramnum_le_paramreq : s.paramnum ≤ s.paramreq
  /-- While parameters are still missing, no callback is pending and no request outstanding. -/
  collecting_quiet : s.paramnum < s.paramreq → s.timer = 0 ∧ outstanding s = []

/-! ## Terms of the statements -/

/-- Run instructions one after another, stopping at the first fault or refusal. -/
def execAll (is : List Instr) (s : State) : Host.Outcome State Fault Refusal :=
  match is with
  | [] => .next s
  | i :: rest =>
    match exec i s with
    | .next t => execAll rest t
    | .fault r => .fault r
    | .refused r => .refused r

/-- `n` steps of the machine. -/
def run (n : Nat) (s : State) : Host.Outcome State Fault Refusal := Host.Core.run Sys2Proof.core n s

/-- The lines `SpinUp(d)` writes (R230): none when the motor is on. -/
def spinUpLines (motoron : Bool) (d : Drive) : List Line :=
  if motoron then []
  else [.emit (.setDriveActive d true), .emit .audioSpinUp, .emit (.driveSpinUp 0), .emit (.driveSpinUp 1)]

/-- The lines `SpinDown()` writes when the motor is on (R231). -/
def spinDownLines : List Line :=
  [.emit (.setDriveActive 0 false), .emit (.setDriveActive 1 false), .emit .audioSpinDown, .emit (.driveSpinDown 0),
    .emit (.driveSpinDown 1)]

/-- The drive a command byte's bit 7 names (R90). -/
def driveNamed (sel1 : Bool) : Drive := if sel1 then 1 else 0

/-- `drvout` with its bits 7 and 6 replaced by the select bits of a command byte (R90, R99). -/
def drvoutSelected (drvout : Byte) (sel1 sel0 : Bool) : Byte :=
  (drvout &&& 0x3F) ||| ((if sel1 then 0x80 else 0x00) ||| (if sel0 then 0x40 else 0x00))

/-- What the acceptance of a command byte and the arrival of its `n` parameter bytes leave before the command executes
(R141, R145), but for the select bits of `drvout`. -/
def accepted (command : Byte) (sel1 : Bool) (params : Params) (n : Nat) (s : State) : State :=
  { s with
    command := command
    params := params
    paramnum := n
    paramreq := n
    status := 0x80
    curdrive := driveNamed sel1
    deletedLatch := false
    trace := s.trace ++ [.emit (.setDriveActive (driveNamed sel1) true)] }

/-- The 53 unknown opcodes, each as its instruction and its value (R95, R161). -/
def unknownOpcodes (sel1 sel0 : Bool) : List (Instr × Byte) :=
  [
    (.unknown00 sel1 sel0, 0x00), (.unknown01 sel1 sel0, 0x01), (.unknown02 sel1 sel0, 0x02), (.unknown03 sel1 sel0, 0x03),
    (.unknown04 sel1 sel0, 0x04), (.unknown05 sel1 sel0, 0x05), (.unknown06 sel1 sel0, 0x06), (.unknown07 sel1 sel0, 0x07),
    (.unknown08 sel1 sel0, 0x08), (.unknown09 sel1 sel0, 0x09), (.unknown0A sel1 sel0, 0x0A), (.unknown0C sel1 sel0, 0x0C),
    (.unknown0D sel1 sel0, 0x0D), (.unknown0E sel1 sel0, 0x0E), (.unknown0F sel1 sel0, 0x0F), (.unknown10 sel1 sel0, 0x10),
    (.unknown11 sel1 sel0, 0x11), (.unknown12 sel1 sel0, 0x12), (.unknown14 sel1 sel0, 0x14), (.unknown15 sel1 sel0, 0x15),
    (.unknown16 sel1 sel0, 0x16), (.unknown18 sel1 sel0, 0x18), (.unknown19 sel1 sel0, 0x19), (.unknown1A sel1 sel0, 0x1A),
    (.unknown1C sel1 sel0, 0x1C), (.unknown1D sel1 sel0, 0x1D), (.unknown1E sel1 sel0, 0x1E), (.unknown20 sel1 sel0, 0x20),
    (.unknown21 sel1 sel0, 0x21), (.unknown22 sel1 sel0, 0x22), (.unknown24 sel1 sel0, 0x24), (.unknown25 sel1 sel0, 0x25),
    (.unknown26 sel1 sel0, 0x26), (.unknown27 sel1 sel0, 0x27), (.unknown28 sel1 sel0, 0x28), (.unknown2A sel1 sel0, 0x2A),
    (.unknown2B sel1 sel0, 0x2B), (.unknown2D sel1 sel0, 0x2D), (.unknown2E sel1 sel0, 0x2E), (.unknown2F sel1 sel0, 0x2F),
    (.unknown30 sel1 sel0, 0x30), (.unknown31 sel1 sel0, 0x31), (.unknown32 sel1 sel0, 0x32), (.unknown33 sel1 sel0, 0x33),
    (.unknown34 sel1 sel0, 0x34), (.unknown36 sel1 sel0, 0x36), (.unknown37 sel1 sel0, 0x37), (.unknown38 sel1 sel0, 0x38),
    (.unknown39 sel1 sel0, 0x39), (.unknown3B sel1 sel0, 0x3B), (.unknown3C sel1 sel0, 0x3C), (.unknown3E sel1 sel0, 0x3E),
    (.unknown3F sel1 sel0, 0x3F) ]

/-- The request a seek of drive `d` to a track makes in a state (R180). -/
def seekRequest (d : Drive) (track : Byte) (s : State) : Output :=
  if track = 0 then .seekToZero d s.stepTime s.settleTime
  else .seekRelative d ((track.toNat : Int) - (s.curtrack[d] : Int)) s.stepTime s.settleTime

/-- The timer value of that seek (R180). -/
def seekCycles (d : Drive) (track : Byte) (s : State) : Nat :=
  if track = 0 then Config.seekDelay s.curtrack[d] s.stepTime s.settleTime
  else Config.seekDelay ((track.toNat : Int) - (s.curtrack[d] : Int)).natAbs s.stepTime s.settleTime

/-- The side a request names, by the side-select bit of `drvout` (00_scope.md section 5, R99). -/
def sideNamed (drvout : Byte) : Side := if drvout &&& Config.sideselMask = 0 then .zero else .one

/-- The event is a host write to port `p` (R61). -/
def writesPort (p : Port) (e : Event) : Bool :=
  match e with
  | .host (.write addr _) => portOf addr == p
  | _ => false

/-- The line is an output event. -/
def isEmit (l : Line) : Bool :=
  match l with
  | .emit _ => true
  | _ => false

/-- The lines written since an earlier state that are output events. -/
def emittedSince (s t : State) : List Line := (t.trace.drop s.trace.length).filter isEmit

/-- The event is a host action (R106). -/
def isHost (e : Event) : Bool :=
  match e with
  | .host _ => true
  | _ => false

end Sys2Proof.Machine
end

