-- ==== Sys2Proof/Certificates/Slice0/Obligations.lean ====
section
/-! DEFINITION. The statements for the provers: what the rules of spec/ say the instructions and the machine do. Each
docstring names the rules a statement formalises, and says what of it rests on a decision D<n> that the spec marks as its own
(92_eei_decisions.md) or is the model's choice (log <n>). -/

open Sys2Proof Sys2Proof.Machine

/-! ## The register interface -/

/-- Host reads of the eight ports (R120, R121, R122, R128): the byte returned, the bits cleared, and nothing else. -/
def Obligations.PortReadsReturnTheirRegister : Prop :=
  ∀ (s : State) (addr : Nat),
    exec (.portReadStatus addr) s = .next { s with trace := s.trace ++ [.returned s.status] } ∧
    exec (.portReadResult addr) s =
      .next { s with status := s.status &&& ~~~0x18, trace := s.trace ++ [.returned s.result] } ∧
    exec (.portReadData addr) s =
      .next { s with status := s.status &&& ~~~0x0C, trace := s.trace ++ [.returned s.data] } ∧
    ∀ i ∈ [Instr.portReadNop2 addr, .portReadNop3 addr, .portReadNop5 addr, .portReadNop6 addr, .portReadNop7 addr],
      exec i s = .next { s with trace := s.trace ++ [.returned 0x00] }

/-- Host writes to ports 3, 5, 6 and 7 do nothing (R127). -/
def Obligations.PortWritesWithoutEffect : Prop :=
  ∀ (s : State) (addr : Nat) (val : Byte),
    ∀ i ∈ [Instr.portWriteNop3 addr val, .portWriteNop5 addr val, .portWriteNop6 addr val, .portWriteNop7 addr val],
      exec i s = .next s

/-- A host write to port 4 deposits the byte and clears `ST_IRQ` and `ST_DATA` (R126). -/
def Obligations.DataWriteDepositsTheByte : Prop :=
  ∀ (s : State) (addr : Nat) (val : Byte),
    exec (.portWriteData addr val) s =
      .next { s with data := val, written := true, status := s.status &&& ~~~0x0C }

/-- The reset register (R125): a write to port 2 with bit 0 set runs the controller reset, whatever the block is doing; any
other write does nothing. -/
def Obligations.ResetRegisterUsesBitZero : Prop :=
  ∀ (s : State) (addr : Nat) (val : Byte),
    (val.getLsbD 0 = true → exec (.portWriteReset addr val) s = .next (controllerReset s)) ∧
    (val.getLsbD 0 = false → exec (.portWriteReset addr val) s = .next s)

/-- A host write to port 2 (R125, R311): with bit 0 set every field of R310 but `motoron` and `spindown` takes its reset
value, whatever the block is doing, and nothing is emitted; with bit 0 clear nothing happens. Rests on the spec's own
decision D22. -/
def Obligations.ResetWriteResetsTheController : Prop :=
  ∀ (s : State) (addr : Nat) (val : Byte),
    exec (.portWriteReset addr val) s =
      .next (if val.getLsbD 0 = true then
        { command := 0xFF, params := #v[0, 0, 0, 0, 0], paramnum := 0, paramreq := 0, status := 0x00, result := 0x00,
          curtrack := #v[0, 0], cursector := 0, sectorsleft := 0, bytesleft := 0, data := 0x00, written := false,
          phase := .zero, drvout := 0x00, unloadRevs := 0, stepTime := 0, settleTime := 0, loadTime := 0, curdrive := 0,
          motoron := s.motoron, timer := 0, spindown := s.spindown, deletedLatch := false, inbox := s.inbox,
          trace := s.trace }
      else s)

/-- The command register (R123): a write while busy does nothing, any other is dispatched. -/
def Obligations.CommandRegisterIsIgnoredWhileBusy : Prop :=
  ∀ (s : State) (addr : Nat) (val : Byte),
    (busy s = true → exec (.portWriteCommand addr val) s = .next s) ∧
    (busy s = false → exec (.portWriteCommand addr val) s = .next (acceptCommand val s))

/-- Opcode normalisation (R91): an accepted command byte leaves its opcode in `command`, 0x17 as 0x13. -/
def Obligations.OpcodeIsNormalised : Prop :=
  ∀ (s : State) (addr : Nat) (val : Byte), busy s = false →
    ∃ t, exec (.portWriteCommand addr val) s = .next t ∧
      t.command = if val &&& 0x3F = 0x17 then 0x13 else val &&& 0x3F

/-- The select-bit threshold (R107): an accepted command byte replaces the select bits of `drvout` exactly when its
normalised opcode is below 0x2C. That the select bits are bits 7 and 6 rests on the spec's own decision D7. -/
def Obligations.SelectBitsFollowTheThreshold : Prop :=
  ∀ (s : State) (addr : Nat) (val : Byte), busy s = false →
    ∃ t, exec (.portWriteCommand addr val) s = .next t ∧
      t.drvout = if t.command < 0x2C then (s.drvout &&& ~~~0xC0) ||| (val &&& 0xC0) else s.drvout

/-- A host write to port 0 (R123, R140, R141, R142): ignored while busy; else the command is accepted, and a command without
parameters executes at once, as Read drive status (R160) or as an unknown opcode (R161). Rests on the spec's own decisions
D3, D5, D6, D7, D9, D29 and D31. -/
def Obligations.CommandWriteDispatches : Prop :=
  ∀ (s : State) (addr : Nat) (val : Byte),
    let c : Byte := if val &&& 0x3F = 0x17 then 0x13 else val &&& 0x3F
    let d : Drive := if val.getLsbD 7 then 1 else 0
    let t : State := { s with
      command := c
      drvout := if c < 0x2C then (s.drvout &&& ~~~0xC0) ||| (val &&& 0xC0) else s.drvout
      curdrive := d
      paramnum := 0
      paramreq := arity c
      status := 0x80
      deletedLatch := false
      trace := s.trace ++ [.emit (.setDriveActive d true)] }
    (busy s = true → exec (.portWriteCommand addr val) s = .next s) ∧
    (busy s = false → arity c ≠ 0 → exec (.portWriteCommand addr val) s = .next t) ∧
    (busy s = false → c = 0x2C → exec (.portWriteCommand addr val) s =
      .next { t with
        status := 0x10
        result := Config.rdsBase ||| (if s.curtrack[d] = 0 then Config.rdsTrk0 else 0)
          ||| (if s.drvout.getLsbD 6 then Config.rdsSel0 else 0)
          ||| (if s.drvout.getLsbD 7 then Config.rdsSel1 else 0) }) ∧
    (busy s = false → arity c = 0 → c ≠ 0x2C → exec (.portWriteCommand addr val) s =
      .next { t with status := 0x18, result := 0x18, timer := 0 })

/-- The arity table (R143). -/
def Obligations.ArityFollowsTheTable : Prop :=
  ∀ c : Byte, arity c =
    if c = 0x35 then 4
    else if c = 0x23 then 5
    else if c = 0x13 ∨ c = 0x0B ∨ c = 0x1B ∨ c = 0x1F then 3
    else if c = 0x3A then 2
    else if c = 0x29 ∨ c = 0x3D then 1
    else 0

/-! ## The parameter collector -/

/-- A host write to port 1 (R145): while `paramnum < 5` the byte goes to its slot, beyond the fifth slot it is dropped
(R147); the command executes when `paramnum` has reached `paramreq`, whatever the block is doing. Rests on the spec's own
decision D30. -/
def Obligations.ParameterWriteCollects : Prop :=
  ∀ (s : State) (addr : Nat) (val : Byte),
    (∀ h : s.paramnum < 5,
      let t : State := { s with params := s.params.set s.paramnum val h, paramnum := s.paramnum + 1 }
      exec (.portWriteParameter addr val) s = .next (if s.paramnum + 1 = s.paramreq then execute t else t)) ∧
    (5 ≤ s.paramnum →
      exec (.portWriteParameter addr val) s = .next (if s.paramnum = s.paramreq then execute s else s))

/-- A command whose parameters are complete runs the rule of its opcode, every other value the unknown-command pattern
(R146). That the pattern clears the timer here too rests on the spec's own decision D31. -/
def Obligations.ExecuteSelectsByCommand : Prop :=
  ∀ s : State, execute s =
    if s.command = 0x35 then specify s
    else if s.command = 0x3D then readSpecial s
    else if s.command = 0x3A then writeSpecial s
    else if s.command = 0x29 then seekStart s
    else if s.command ∈ ([0x0B, 0x13, 0x1F, 0x1B] : List Byte) then sectorStart s
    else if s.command = 0x23 then formatStart s
    else { s with result := 0x18, status := 0x18, timer := 0 }

/-- A port-1 write after the fifth parameter of a Format drops its byte and runs `FormatStart()` again with the same
parameters, without setting `status` (R148; log 14). Rests on the spec's own decisions D13, D14, D19, D25 and D30. -/
def Obligations.SixthParameterRerunsFormat : Prop :=
  ∀ (s : State) (addr : Nat) (val : Byte), s.command = 0x23 → s.paramnum = 5 → s.paramreq = 5 →
    exec (.portWriteParameter addr val) s =
      .next { s with
        spindown := none
        motoron := true
        phase := .zero
        timer := if s.params[0].toNat = s.curtrack[s.curdrive] then Config.tShort
          else seekCycles s.curdrive s.params[0] s
        trace := s.trace ++ spinUpLines s.motoron s.curdrive ++
          if s.params[0].toNat = s.curtrack[s.curdrive] then [] else [.emit (seekRequest s.curdrive s.params[0] s)] }

/-- A command instruction is its expansion (R109): the opcode byte written to port 0 and the parameter bytes written to port
1, in order, in every state, busy or not. That no other event falls between them is the model's reading (log 5). Rests on the
spec's own decision D2. -/
def Obligations.CommandIsItsPortWrites : Prop :=
  ∀ (i : Instr) (s : State) (val : Byte) (ps : List Byte), encode i = .command (val :: ps) →
    exec i s = execAll (.portWriteCommand 0 val :: ps.map (.portWriteParameter 1 ·)) s

/-! ## The synchronous commands -/

/-- Read drive status on an idle block (R160): the result is composed of the base bits, the track-zero flag of the drive
just addressed and the two select flags of the old `drvout`. Rests on the spec's own decisions D3, D5, D6, D7, D9 and D29.
-/
def Obligations.ReadDriveStatusComposesItsResult : Prop :=
  ∀ (s : State) (sel1 sel0 : Bool), busy s = false →
    exec (.rdDrvStatus sel1 sel0) s =
      .next { accepted 0x2C sel1 s.params 0 s with
        status := 0x10
        result := Config.rdsBase ||| (if s.curtrack[driveNamed sel1] = 0 then Config.rdsTrk0 else 0)
          ||| (if s.drvout.getLsbD 6 then Config.rdsSel0 else 0)
          ||| (if s.drvout.getLsbD 7 then Config.rdsSel1 else 0) }

/-- The three flags of the Read-drive-status result can be told apart, whatever their open positions (R102, under the
constraints of R10). Rests on the spec's own decisions D7 and D9. -/
def Obligations.DriveStatusFlagsAreReadable : Prop :=
  ∀ (s : State) (sel1 sel0 : Bool), busy s = false →
    ∃ t, exec (.rdDrvStatus sel1 sel0) s = .next t ∧
      (t.result &&& Config.rdsTrk0 ≠ 0 ↔ s.curtrack[driveNamed sel1] = 0) ∧
      (t.result &&& Config.rdsSel0 ≠ 0 ↔ s.drvout.getLsbD 6 = true) ∧
      (t.result &&& Config.rdsSel1 ≠ 0 ↔ s.drvout.getLsbD 7 = true) ∧
      t.result &&& ~~~(Config.rdsTrk0 ||| Config.rdsSel0 ||| Config.rdsSel1) = Config.rdsBase

/-- Each of the 53 unknown opcodes, issued on an idle block, is accepted and takes the unknown-command pattern (R161, R277):
the select bits are copied only below 0x2C. Rests on the spec's own decisions D3, D6, D7, D29 and D31. -/
def Obligations.UnknownOpcodesTakeTheErrorPattern : Prop :=
  ∀ (s : State) (sel1 sel0 : Bool), busy s = false →
    ∀ p ∈ unknownOpcodes sel1 sel0,
      exec p.1 s =
        .next { accepted p.2 sel1 s.params 0 s with
          drvout := if p.2 < 0x2C then drvoutSelected s.drvout sel1 sel0 else s.drvout
          status := 0x18
          result := 0x18
          timer := 0 }

/-- Specify on an idle block (R163): under the key 0x0D the four timing registers are written, under another key they keep
their values, and busy clears either way. Rests on the spec's own decisions D3, D6, D7, D21 and D29. -/
def Obligations.SpecifySetsTheTimingRegisters : Prop :=
  ∀ (s : State) (sel1 sel0 : Bool) (key step settle unloadLoad : Byte), busy s = false →
    exec (.specify sel1 sel0 key step settle unloadLoad) s =
      .next { accepted 0x35 sel1 ((((s.params.set 0 key).set 1 step).set 2 settle).set 3 unloadLoad) 4 s with
        stepTime := if key = 0x0D then step.toNat * 2000 else s.stepTime
        settleTime := if key = 0x0D then settle.toNat * 2000 else s.settleTime
        unloadRevs := if key = 0x0D then unloadLoad.toNat / 16 else s.unloadRevs
        loadTime := if key = 0x0D then unloadLoad.toNat % 16 * 4000 else s.loadTime
        status := 0x00 }

/-- Read special register on an idle block (R164), with the track registers in their range (R30): the three indices read
their registers, every other index takes the unknown-command pattern. Rests on the spec's own decisions D3, D5, D6, D7, D10,
D29 and D31. -/
def Obligations.ReadSpecialSelectsByIndex : Prop :=
  ∀ (s : State) (sel1 sel0 : Bool) (index : Byte), busy s = false → s.curtrack[0] ≤ 255 → s.curtrack[1] ≤ 255 →
    let t := accepted 0x3D sel1 (s.params.set 0 index) 1 s
    exec (.rdSpecial sel1 sel0 index) s = .next
      (if index = Config.srTrack0 then { t with result := BitVec.ofNat 8 s.curtrack[0], status := 0x10 }
      else if index = Config.srTrack1 then { t with result := BitVec.ofNat 8 s.curtrack[1], status := 0x10 }
      else if index = Config.srDrvout then { t with result := s.drvout, status := 0x10 }
      else { t with result := 0x18, status := 0x18, timer := 0 })

/-- Write special register on an idle block (R165): the three indices write their registers, an ignored index writes
nothing, every other index takes the unknown-command pattern; no seek is emitted and the motor is not touched. Rests on the
spec's own decisions D3, D6, D7, D10, D29, D31 and D37. -/
def Obligations.WriteSpecialSelectsByIndex : Prop :=
  ∀ (s : State) (sel1 sel0 : Bool) (index value : Byte), busy s = false →
    let t := accepted 0x3A sel1 ((s.params.set 0 index).set 1 value) 2 s
    exec (.wrSpecial sel1 sel0 index value) s = .next
      (if index = Config.srTrack0 then { t with curtrack := s.curtrack.set 0 value.toNat, status := 0x00 }
      else if index = Config.srTrack1 then { t with curtrack := s.curtrack.set 1 value.toNat, status := 0x00 }
      else if index = Config.srDrvout then { t with drvout := value, status := 0x00 }
      else if index ∈ Config.srWriteIgnored then { t with status := 0x00 }
      else { t with result := 0x18, status := 0x18, timer := 0 })

/-! ## The start of a disc command -/

/-- Seek on an idle block (R180, R181): the request, the timer armed for its completion, and then the spin-up, in that
order; `curtrack`, `phase` and `status` are left alone. Rests on the spec's own decisions D3, D6, D7, D13, D14, D19, D29 and
D36. -/
def Obligations.SeekIssuesItsRequest : Prop :=
  ∀ (s : State) (sel1 sel0 : Bool) (track : Byte), busy s = false →
    let d := driveNamed sel1
    let t := accepted 0x29 sel1 (s.params.set 0 track) 1 s
    (track = 0 → exec (.seek sel1 sel0 track) s =
      .next { t with
        drvout := drvoutSelected s.drvout sel1 sel0
        motoron := true
        spindown := none
        timer := Config.seekDelay s.curtrack[d] s.stepTime s.settleTime
        trace := t.trace ++ .emit (.seekToZero d s.stepTime s.settleTime) :: spinUpLines s.motoron d }) ∧
    (track ≠ 0 → exec (.seek sel1 sel0 track) s =
      .next { t with
        drvout := drvoutSelected s.drvout sel1 sel0
        motoron := true
        spindown := none
        timer := Config.seekDelay ((track.toNat : Int) - (s.curtrack[d] : Int)).natAbs s.stepTime s.settleTime
        trace := t.trace ++
          .emit (.seekRelative d ((track.toNat : Int) - (s.curtrack[d] : Int)) s.stepTime s.settleTime) ::
            spinUpLines s.motoron d })

/-- The five sector commands on an idle block (R190, R191): the counters are loaded, the motor spun up, and then an implied
seek is issued or the short delay armed; only `RD_SECTOR` and its alias load `bytesleft`. Rests on the spec's own decisions
D3, D6, D7, D11, D12, D13, D14, D19, D29 and D35. -/
def Obligations.SectorCommandsStart : Prop :=
  ∀ (s : State) (sel1 sel0 : Bool) (track sector sizeCount : Byte), busy s = false →
    ∀ p ∈ ([(.wrSector sel1 sel0 track sector sizeCount, 0x0B), (.rdSector sel1 sel0 track sector sizeCount, 0x13),
        (.rdSectorAlias sel1 sel0 track sector sizeCount, 0x13), (.rdId sel1 sel0 track sector sizeCount, 0x1B),
        (.verify sel1 sel0 track sector sizeCount, 0x1F)] : List (Instr × Byte)),
      let d := driveNamed sel1
      let t := accepted p.2 sel1 (((s.params.set 0 track).set 1 sector).set 2 sizeCount) 3 s
      exec p.1 s =
        .next { t with
          drvout := drvoutSelected s.drvout sel1 sel0
          sectorsleft := ((sizeCount.toNat % 32 : Nat) : Int)
          cursector := sector.toNat
          bytesleft := if p.2 = 0x13 then 128 * 2 ^ (sizeCount.toNat / 32) else s.bytesleft
          motoron := true
          spindown := none
          phase := .zero
          timer := if track.toNat = s.curtrack[d] then Config.tShort else seekCycles d track s
          trace := t.trace ++ spinUpLines s.motoron d ++
            if track.toNat = s.curtrack[d] then [] else [.emit (seekRequest d track s)] }

/-- Format on an idle block (R220): spin-up, phase 0, and an implied seek or the short delay; the sector counters keep their
values. Rests on the spec's own decisions D3, D6, D7, D13, D14, D19, D25 and D29. -/
def Obligations.FormatStarts : Prop :=
  ∀ (s : State) (sel1 sel0 : Bool) (track p1 p2 p3 p4 : Byte), busy s = false →
    let d := driveNamed sel1
    let t := accepted 0x23 sel1 (((((s.params.set 0 track).set 1 p1).set 2 p2).set 3 p3).set 4 p4) 5 s
    exec (.format sel1 sel0 track p1 p2 p3 p4) s =
      .next { t with
        drvout := drvoutSelected s.drvout sel1 sel0
        motoron := true
        spindown := none
        phase := .zero
        timer := if track.toNat = s.curtrack[d] then Config.tShort else seekCycles d track s
        trace := t.trace ++ spinUpLines s.motoron d ++
          if track.toNat = s.curtrack[d] then [] else [.emit (seekRequest d track s)] }

/-! ## The timer callback -/

/-- The completion of a Seek (R182): the track register, the terminal pattern and a normal spindown. Rests on the spec's own
decisions D6, D20 and D28. -/
def Obligations.SeekCompletes : Prop :=
  ∀ (s : State) (rest : List Event), s.inbox = .timerCallback :: rest → 0 < s.timer → s.command = 0x29 →
    step s = .next { s with
      inbox := rest
      timer := 0
      curtrack := s.curtrack.set s.curdrive s.params[0].toNat
      status := 0x18
      result := if s.deletedLatch then 0x20 else 0x00
      deletedLatch := false
      spindown := some (s.unloadRevs * Config.revCycles)
      trace := s.trace ++ [.event .timerCallback] }

/-- The callback arm of Write sector (R192): the first request, the next one, or the end of the operation. Rests on the
spec's own decisions D4, D6, D16, D20, D26 and D28. -/
def Obligations.WriteSectorCallback : Prop :=
  ∀ (s : State) (rest : List Event), s.inbox = .timerCallback :: rest → 0 < s.timer → s.command = 0x0B →
    (s.phase = .zero → step s = .next { s with
      inbox := rest
      timer := 0
      curtrack := s.curtrack.set s.curdrive s.params[0].toNat
      phase := .one
      status := 0x8C
      trace := s.trace ++ [.event .timerCallback,
        .emit (.writeSector s.curdrive s.cursector s.params[0] (sideNamed s.drvout) Config.density)] }) ∧
    (s.phase = .one → s.sectorsleft - 1 = 0 → step s = .next { s with
      inbox := rest
      timer := 0
      sectorsleft := 0
      status := 0x18
      result := if s.deletedLatch then 0x20 else 0x00
      deletedLatch := false
      spindown := some (s.unloadRevs * Config.revCycles)
      trace := s.trace ++ [.event .timerCallback] }) ∧
    (s.phase = .one → s.sectorsleft - 1 ≠ 0 → step s = .next { s with
      inbox := rest
      timer := 0
      sectorsleft := s.sectorsleft - 1
      cursector := s.cursector + 1
      status := 0x8C
      trace := s.trace ++ [.event .timerCallback,
        .emit (.writeSector s.curdrive (s.cursector + 1) s.params[0] (sideNamed s.drvout) Config.density)] })

/-- The callback arm of Read sector (R193). Rests on the spec's own decisions D6, D16, D20, D26 and D28. -/
def Obligations.ReadSectorCallback : Prop :=
  ∀ (s : State) (rest : List Event), s.inbox = .timerCallback :: rest → 0 < s.timer → s.command = 0x13 →
    (s.phase = .zero → step s = .next { s with
      inbox := rest
      timer := 0
      curtrack := s.curtrack.set s.curdrive s.params[0].toNat
      phase := .one
      trace := s.trace ++ [.event .timerCallback,
        .emit (.readSector s.curdrive s.cursector s.params[0] (sideNamed s.drvout) Config.density)] }) ∧
    (s.phase = .one → s.sectorsleft - 1 = 0 → step s = .next { s with
      inbox := rest
      timer := 0
      sectorsleft := 0
      status := 0x18
      result := if s.deletedLatch then 0x20 else 0x00
      deletedLatch := false
      spindown := some (s.unloadRevs * Config.revCycles)
      trace := s.trace ++ [.event .timerCallback] }) ∧
    (s.phase = .one → s.sectorsleft - 1 ≠ 0 → step s = .next { s with
      inbox := rest
      timer := 0
      sectorsleft := s.sectorsleft - 1
      cursector := s.cursector + 1
      bytesleft := 128 * 2 ^ (s.params[2].toNat / 32)
      trace := s.trace ++ [.event .timerCallback,
        .emit (.readSector s.curdrive (s.cursector + 1) s.params[0] (sideNamed s.drvout) Config.density)] })

/-- The callback arm of Verify sector (R195): as Read sector's, but `bytesleft` keeps its value. Rests on the spec's own
decisions D6, D16, D17, D20, D26 and D28. -/
def Obligations.VerifyCallback : Prop :=
  ∀ (s : State) (rest : List Event), s.inbox = .timerCallback :: rest → 0 < s.timer → s.command = 0x1F →
    (s.phase = .zero → step s = .next { s with
      inbox := rest
      timer := 0
      curtrack := s.curtrack.set s.curdrive s.params[0].toNat
      phase := .one
      trace := s.trace ++ [.event .timerCallback,
        .emit (.readSector s.curdrive s.cursector s.params[0] (sideNamed s.drvout) Config.density)] }) ∧
    (s.phase = .one → s.sectorsleft - 1 = 0 → step s = .next { s with
      inbox := rest
      timer := 0
      sectorsleft := 0
      status := 0x18
      result := if s.deletedLatch then 0x20 else 0x00
      deletedLatch := false
      spindown := some (s.unloadRevs * Config.revCycles)
      trace := s.trace ++ [.event .timerCallback] }) ∧
    (s.phase = .one → s.sectorsleft - 1 ≠ 0 → step s = .next { s with
      inbox := rest
      timer := 0
      sectorsleft := s.sectorsleft - 1
      cursector := s.cursector + 1
      trace := s.trace ++ [.event .timerCallback,
        .emit (.readSector s.curdrive (s.cursector + 1) s.params[0] (sideNamed s.drvout) Config.density)] })

/-- The callback arm of Read ID (R196): the request names no sector, and `bytesleft` is 4 for each further field. Rests on
the spec's own decisions D6, D16, D20, D26 and D28. -/
def Obligations.ReadIdCallback : Prop :=
  ∀ (s : State) (rest : List Event), s.inbox = .timerCallback :: rest → 0 < s.timer → s.command = 0x1B →
    (s.phase = .zero → step s = .next { s with
      inbox := rest
      timer := 0
      curtrack := s.curtrack.set s.curdrive s.params[0].toNat
      phase := .one
      trace := s.trace ++ [.event .timerCallback,
        .emit (.readAddress s.curdrive s.params[0] (sideNamed s.drvout) Config.density)] }) ∧
    (s.phase = .one → s.sectorsleft - 1 = 0 → step s = .next { s with
      inbox := rest
      timer := 0
      sectorsleft := 0
      status := 0x18
      result := if s.deletedLatch then 0x20 else 0x00
      deletedLatch := false
      spindown := some (s.unloadRevs * Config.revCycles)
      trace := s.trace ++ [.event .timerCallback] }) ∧
    (s.phase = .one → s.sectorsleft - 1 ≠ 0 → step s = .next { s with
      inbox := rest
      timer := 0
      sectorsleft := s.sectorsleft - 1
      cursector := s.cursector + 1
      bytesleft := 4
      trace := s.trace ++ [.event .timerCallback,
        .emit (.readAddress s.curdrive s.params[0] (sideNamed s.drvout) Config.density)] })

/-- The callback arm of Format track (R221): the request with data-ready, then the terminal pattern without a spindown.
Rests on the spec's own decisions D4, D6, D16, D25 and D28. -/
def Obligations.FormatCallback : Prop :=
  ∀ (s : State) (rest : List Event), s.inbox = .timerCallback :: rest → 0 < s.timer → s.command = 0x23 →
    (s.phase = .zero → step s = .next { s with
      inbox := rest
      timer := 0
      curtrack := s.curtrack.set s.curdrive s.params[0].toNat
      phase := .one
      status := 0x8C
      trace := s.trace ++ [.event .timerCallback,
        .emit (.format s.curdrive s.params[0] (sideNamed s.drvout) (Config.formatFill s.params))] }) ∧
    (s.phase = .one → step s = .next { s with
      inbox := rest
      timer := 0
      status := 0x18
      result := if s.deletedLatch then 0x20 else 0x00
      deletedLatch := false
      trace := s.trace ++ [.event .timerCallback] })

/-- The timer callback under any other value of `command` only clears the timer (R250, its last arm). Rests on the spec's
own decision D28. -/
def Obligations.CallbackOfOtherCommandsIsIdle : Prop :=
  ∀ (s : State) (rest : List Event), s.inbox = .timerCallback :: rest → 0 < s.timer →
    s.command ∉ ([0x0B, 0x13, 0x1F, 0x1B, 0x23, 0x29] : List Byte) →
    step s = .next { s with inbox := rest, timer := 0, trace := s.trace ++ [.event .timerCallback] }

/-! ## The motor -/

/-- The motor-off event (R235, R231): the spindown is disarmed; a motor that was on goes off with its five calls and clears
the two select bits, a motor that was off changes nothing more. Rests on the spec's own decisions D7 and
D20. -/
def Obligations.MotorOffStopsTheMotor : Prop :=
  ∀ (s : State) (rest : List Event) (n : Nat), s.inbox = .motorOff :: rest → s.spindown = some n →
    step s = .next { s with
      inbox := rest
      spindown := none
      motoron := false
      drvout := if s.motoron then s.drvout &&& 0x3F else s.drvout
      trace := s.trace ++ .event .motorOff :: if s.motoron then spinDownLines else [] }

/-- A spin-down (R231): a motor that is on goes off with its five calls, in order, and clears the two select bits; with the
motor off nothing happens. That the select bits are bits 7 and 6 (the mask 0xC0) rests on the spec's own decision D7. -/
def Obligations.SpinDownClearsTheSelectBits : Prop :=
  ∀ s : State,
    (s.motoron = true → spinDown s =
      { s with
        motoron := false
        drvout := s.drvout &&& ~~~0xC0
        trace := s.trace ++ [.emit (.setDriveActive 0 false), .emit (.setDriveActive 1 false), .emit .audioSpinDown,
          .emit (.driveSpinDown 0), .emit (.driveSpinDown 1)] }) ∧
    (s.motoron = false → spinDown s = s)

/-- A second spin-up without a spin-down between does nothing and calls nobody (R230, V6). Rests on the spec's own decision
D19. -/
def Obligations.SpinUpTwiceIsOnce : Prop :=
  ∀ (s : State) (d e : Drive), spinUp e (spinUp d s) = spinUp d s

/-! ## Byte transfer and notifications -/

/-- `put_data(b)` (R252). Rests on the spec's own decisions D4, D17 and D23. -/
def Obligations.PutDataOffersTheByte : Prop :=
  ∀ (s : State) (rest : List Event) (b : Byte), s.inbox = .putData b :: rest →
    step s = .next (if s.command = 0xFF ∨ s.command = 0x1F then
      { s with inbox := rest, trace := s.trace ++ [.event (.putData b)] }
    else
      { s with inbox := rest, data := b, status := 0x8C, trace := s.trace ++ [.event (.putData b)] })

/-- `get_data(is_last)` (R253): the not-written signal without a change of state, or the deposited byte, with a request for
the next one unless this was the last. Rests on the spec's own decisions D4, D18 and D23. -/
def Obligations.GetDataConsumesTheByte : Prop :=
  ∀ (s : State) (rest : List Event) (isLast : Bool), s.inbox = .getData isLast :: rest →
    (s.command = 0xFF ∨ s.written = false → step s =
      .next { s with inbox := rest, trace := s.trace ++ [.event (.getData isLast), .notWritten] }) ∧
    (s.command ≠ 0xFF → s.written = true → step s =
      .next { s with
        inbox := rest
        written := false
        status := if isLast then s.status else 0x8C
        trace := s.trace ++ [.event (.getData isLast), .gave s.data] })

/-- `Success(deleted)` (R254): the short delay is armed and a deleted-data mark latched; `status` and `spindown` stay. Rests
on the spec's own decisions D6, D15 and D23. -/
def Obligations.SuccessArmsTheTimer : Prop :=
  ∀ (s : State) (rest : List Event) (deleted : Bool), s.inbox = .success deleted :: rest →
    step s = .next (if s.command = 0xFF then
      { s with inbox := rest, trace := s.trace ++ [.event (.success deleted)] }
    else
      { s with
        inbox := rest
        deletedLatch := s.deletedLatch || deleted
        timer := Config.tShort
        trace := s.trace ++ [.event (.success deleted)] })

/-- The four error notifications outside the reset state (R278 to R282): each takes the error completion with its code and a
short spindown. Rests on the spec's own decisions D20 and D24. -/
def Obligations.ErrorOutcomesEndTheCommand : Prop :=
  ∀ (s : State) (rest : List Event) (deleted : Bool), s.command ≠ 0xFF →
    ∀ p ∈ ([(.notFound, 0x18), (.headerCRC, 0x0C), (.dataCRC deleted, if deleted then 0x2E else 0x0E),
        (.writeProtect, 0x12)] : List (Event × Byte)),
      s.inbox = p.1 :: rest →
      step s = .next { s with
        inbox := rest
        result := p.2
        status := 0x18
        timer := 0
        deletedLatch := false
        spindown := some Config.tSpindownShort
        trace := s.trace ++ [.event p.1] }

/-- Late collaborator events in the reset state change no state of the block (R78). Rests on the spec's own decision D23. -/
def Obligations.LateEventsAreIgnored : Prop :=
  ∀ (s : State) (rest : List Event) (b : Byte) (flag : Bool), s.command = 0xFF →
    (∀ e ∈ [Event.putData b, .success flag, .notFound, .headerCRC, .dataCRC flag, .writeProtect],
      s.inbox = e :: rest → step s = .next { s with inbox := rest, trace := s.trace ++ [.event e] }) ∧
    (s.inbox = .getData flag :: rest →
      step s = .next { s with inbox := rest, trace := s.trace ++ [.event (.getData flag), .notWritten] })

/-! ## Reset and power-on -/

/-- Power-on, before anything else, gives every field of the block its reset value, from any register contents (R310, R72).
That `nothing yet` is an empty trace, and that the events to come stay, is the model's choice (log 2, log 17). Rests on the
spec's own decision D22. -/
def Obligations.PowerOnGivesTheResetValues : Prop :=
  ∀ (s : State) (rest : List Event), s.inbox = .powerOn :: rest → s.trace = [] →
    step s = .next
      { command := 0xFF, params := #v[0, 0, 0, 0, 0], paramnum := 0, paramreq := 0, status := 0x00, result := 0x00,
        curtrack := #v[0, 0], cursector := 0, sectorsleft := 0, bytesleft := 0, data := 0x00, written := false,
        phase := .zero, drvout := 0x00, unloadRevs := 0, stepTime := 0, settleTime := 0, loadTime := 0, curdrive := 0,
        motoron := false, timer := 0, spindown := none, deletedLatch := false, inbox := rest,
        trace := [.event .powerOn] }

/-- Power-on comes once, before anything else (R72): it can occur while nothing has, and after a step that handled any event,
power-on itself among them, a power-on that comes next is refused. That `nothing yet` is an empty trace is the model's choice
(log 17), and so is the refusal (log 6). Rests on the spec's own decision D1. -/
def Obligations.PowerOnComesOnceAndFirst : Prop :=
  ∀ (s t : State) (e : Event) (rest : List Event), s.inbox = e :: rest → step s = .next t →
    (e = .powerOn → s.trace = []) ∧
    ∀ later : List Event, step { t with inbox := .powerOn :: later } = .refused (.notEnabled .powerOn)

/-- The state after reset (R310), with no event to come and an empty trace (log 1, log 2). Rests on the spec's own decision
D22. -/
def Obligations.ResetStateHasTheResetValues : Prop :=
  State.reset =
    { command := 0xFF, params := #v[0, 0, 0, 0, 0], paramnum := 0, paramreq := 0, status := 0x00, result := 0x00,
      curtrack := #v[0, 0], cursector := 0, sectorsleft := 0, bytesleft := 0, data := 0x00, written := false,
      phase := .zero, drvout := 0x00, unloadRevs := 0, stepTime := 0, settleTime := 0, loadTime := 0, curdrive := 0,
      motoron := false, timer := 0, spindown := none, deletedLatch := false, inbox := [], trace := [] }

/-! ## Encoding -/

/-- Decoding what the encoder writes gives the instruction back, for every well-formed instruction with every operand (R90
to R95, R103). Rests on the spec's own decision D7. -/
def Obligations.DecodeOfEncode : Prop :=
  ∀ i : Instr, wellFormed i = true → decode (encode i) = .ok i

/-- Encoding what the decoder reads gives the bytes back, and what it reads is well formed: each host action has one
reading. Rests on the spec's own decision D7. -/
def Obligations.EncodeOfDecode : Prop :=
  ∀ (a : HostAction) (i : Instr), decode a = .ok i → encode i = a ∧ wellFormed i = true

/-- Some words of the spec's own encodings decode to their instructions (R60, R61, R110). Rests on the spec's own decision
D7. -/
def Obligations.SampleWordsDecode : Prop :=
  decode (.command [0x69, 0x05]) = .ok (.seek false true 0x05) ∧
  decode (.command [0x93, 0x02, 0x00, 0x21]) = .ok (.rdSector true false 0x02 0x00 0x21) ∧
  decode (.command [0xEC]) = .ok (.rdDrvStatus true true) ∧
  decode (.command [0x40]) = .ok (.unknown00 false true) ∧
  decode (.read 12) = .ok (.portReadData 12) ∧
  decode (.write 10 0x01) = .ok (.portWriteReset 10 0x01)

/-- A command has exactly the length its opcode gives (R93): the bytes of a host command decode if and only if there are
`1 + paramreq` of them. That `1 + paramreq` bytes are one command is R93's; that the decoder refuses any other number is the
model's choice (log 12). -/
def Obligations.CommandLengthIsKnownFromTheOpcode : Prop :=
  ∀ (val : Byte) (ps : List Byte),
    (∃ i, decode (.command (val :: ps)) = .ok i) ↔
      ps.length = arity (if val &&& 0x3F = 0x17 then 0x13 else val &&& 0x3F)

/-- Addresses congruent modulo 8 reach the same port: the accesses they make have the same effect (R60).
That an address is a natural number of any size is the model's (log 16). Rests on the spec's own decision D1. -/
def Obligations.PortWindowRepeatsEveryEightAddresses : Prop :=
  ∀ (a b : Nat) (val : Byte) (s : State), a % 8 = b % 8 →
    exec (decodeRead a) s = exec (decodeRead b) s ∧ exec (decodeWrite a val) s = exec (decodeWrite b val) s

/-! ## The step -/

/-- A step runs the decoded instruction: the next host action is taken from the inbox and written in the trace, and the step
is `exec` of the instruction it decodes to. The inbox and the trace are the model's (log 1, log 2). -/
def Obligations.StepRunsTheDecodedInstruction : Prop :=
  ∀ (s : State) (a : HostAction) (i : Instr) (rest : List Event), s.inbox = .host a :: rest → decode a = .ok i →
    step s = exec i { s with inbox := rest, trace := s.trace ++ [.event (.host a)] }

/-- A table word placed as the host's next action is the instruction the next step runs (log 1, log 4). -/
def Obligations.FetchWordRunsNext : Prop :=
  ∀ (s : State) (nbits w : Nat), ∃ i, decodeTableWord nbits w = some i ∧
    step (s.withFetchWord nbits w) =
      exec i { s with trace := s.trace ++ [.event (.host (.command (tableCommand nbits w)))] }

/-- A step is refused exactly for an event that is not enabled (R72: a power-on after anything else, a timer callback with
no timer pending, a motor-off event with no spindown pending) and for a host command whose bytes are not one command (the
model's choices, log 6, log 12 and log 17); so no instruction is ever refused. Rests on the spec's own decision D1. -/
def Obligations.RefusalsAreTheEnvironments : Prop :=
  ∀ (s : State) (r : Refusal), step s = .refused r ↔
    ∃ (e : Event) (rest : List Event), s.inbox = e :: rest ∧
      ((r = .notEnabled e ∧ ((e = .powerOn ∧ s.trace ≠ []) ∨ (e = .timerCallback ∧ s.timer = 0) ∨
          (e = .motorOff ∧ s.spindown = none))) ∨
        ∃ (bytes : List Byte) (reason : DecodeError), e = .host (.command bytes) ∧
          decode (.command bytes) = .error reason ∧ r = .notOneCommand reason)

/-! ## Invariants -/

/-- The reset state is legal. Rests on the spec's own decision D22. -/
def Obligations.ResetStateIsLegal : Prop := Legal State.reset

/-- Every step, under any event, keeps the ranges the spec gives the registers (R20, R22, R23, R26, R30, R32, R33, R35).
Rests on the spec's own decisions D3, D4, D5, D6, D11, D16, D21, D22 and D27. -/
def Obligations.StepKeepsLegal : Prop :=
  ∀ s t : State, Legal s → step s = .next t → Legal t

/-- The invariant of R43 holds after reset. Rests on the spec's own decision D22. -/
def Obligations.ResetStateIsInFlight : Prop := InFlight State.reset

/-- Every step under an admissible event keeps the invariant of R43. Which requests count as outstanding after a reset is
the model's choice among those of entry U2 (log 15). Rests on the spec's own decisions D3, D4, D5, D6, D14, D15, D17,
D18, D22, D23, D24, D28, D31 and D34. -/
def Obligations.StepKeepsInFlight : Prop :=
  ∀ (s t : State), InFlight s → (∀ e rest, s.inbox = e :: rest → Admissible e s) → step s = .next t → InFlight t

/-! ## Rules of the whole machine -/

/-- The interrupt line goes up only by an event that writes the terminal or error pattern or the data-ready pattern (R271).
Rests on the spec's own decisions D4, D5 and D6. -/
def Obligations.InterruptRisesByThreePatterns : Prop :=
  ∀ s t : State, step s = .next t → irq s = false → irq t = true → t.status = 0x18 ∨ t.status = 0x8C

/-- The four timing registers are written only by a reset and by a Specify whose first parameter is 0x0D (R35). Rests on the
spec's own decisions D21 and D22. -/
def Obligations.TimingRegistersChangeOnlyBySpecify : Prop :=
  ∀ (s t : State) (e : Event) (rest : List Event), s.inbox = e :: rest → step s = .next t → isReset e = false →
    (t.stepTime ≠ s.stepTime ∨ t.settleTime ≠ s.settleTime ∨ t.unloadRevs ≠ s.unloadRevs ∨ t.loadTime ≠ s.loadTime) →
    isHost e = true ∧ t.command = 0x35 ∧ t.params[0] = 0x0D

/-- The track registers are never updated speculatively (R30): outside a reset they change only in a timer callback, which
writes the first parameter to the register of the current drive, or by a Write special register. Rests on the spec's own
decision D16. -/
def Obligations.TracksChangeOnlyOnCompletion : Prop :=
  ∀ (s t : State) (e : Event) (rest : List Event), s.inbox = e :: rest → step s = .next t → isReset e = false →
    t.curtrack ≠ s.curtrack →
    (e = .timerCallback ∧ t.curtrack = s.curtrack.set s.curdrive s.params[0].toNat) ∨
      (isHost e = true ∧ t.command = 0x3A)

/-- The motor goes off only by the motor-off event and by power-on; a reset through port 2 leaves it and its spindown alone
(R37, R311). Rests on the spec's own decision D22. -/
def Obligations.MotorStopsOnlyByMotorOff : Prop :=
  ∀ (s t : State) (e : Event) (rest : List Event), s.inbox = e :: rest → step s = .next t → e ≠ .powerOn →
    (s.motoron = true → t.motoron = false → e = .motorOff) ∧
    (isReset e = true → t.motoron = s.motoron ∧ t.spindown = s.spindown)

/-- `written` is set only by a host write to port 4, and cleared only by a `get_data` and by a reset (R29). Rests on the
spec's own decisions D18 and D22. -/
def Obligations.DepositFlagHasTwoWriters : Prop :=
  ∀ (s t : State) (e : Event) (rest : List Event), s.inbox = e :: rest → step s = .next t →
    (s.written = false → t.written = true → writesPort 4 e = true) ∧
    (s.written = true → t.written = false → isReset e = true ∨ ∃ isLast, e = .getData isLast)

/-! ## Multi-sector operations -/

/-- The shape of an error-free sector operation with count `n` (R197), from its first callback to its end, for the four
sector commands: one phase-0 callback and then `n` times a success and a phase-1 callback make `n` requests, for the sectors
from the first one on, and end in the terminal pattern with a normal spindown. The start of the command is before it, and
the events are the callbacks and the successes alone: no byte-transfer calls between them, and no success with a
deleted-data mark. Rests on the spec's own decisions D6, D15, D16, D20, D26 and D28. -/
def Obligations.SectorOperationCompletes : Prop :=
  ∀ (s : State) (n : Nat) (rest : List Event),
    ∀ p ∈ ([(0x0B, fun k => .writeSector s.curdrive (s.cursector + k) s.params[0] (sideNamed s.drvout) Config.density),
        (0x13, fun k => .readSector s.curdrive (s.cursector + k) s.params[0] (sideNamed s.drvout) Config.density),
        (0x1F, fun k => .readSector s.curdrive (s.cursector + k) s.params[0] (sideNamed s.drvout) Config.density),
        (0x1B, fun _ => .readAddress s.curdrive s.params[0] (sideNamed s.drvout) Config.density)] :
        List (Byte × (Nat → Output))),
      s.command = p.1 → s.phase = .zero → 0 < s.timer → s.deletedLatch = false → 1 ≤ n → s.sectorsleft = (n : Int) →
      s.inbox = .timerCallback :: ((List.replicate n [Event.success false, .timerCallback]).flatten ++ rest) →
      ∃ t, run (1 + 2 * n) s = .next t ∧ t.inbox = rest ∧ t.status = 0x18 ∧ t.result = 0x00 ∧
        t.sectorsleft = 0 ∧ t.cursector = s.cursector + (n - 1) ∧ t.timer = 0 ∧
        t.spindown = some (s.unloadRevs * Config.revCycles) ∧
        emittedSince s t = (List.range n).map fun k => .emit (p.2 k)

/-- A sector operation whose count has reached zero or less goes on for ever without an error outcome (R202): after any
number of further successes it is still busy, with `sectorsleft` further below zero. Rests on the spec's own decisions
D4, D15 and D27. -/
def Obligations.CountZeroNeverCompletes : Prop :=
  ∀ (s : State) (n : Nat) (rest : List Event), s.command ∈ ([0x0B, 0x13, 0x1F, 0x1B] : List Byte) → s.phase = .one →
    busy s = true → s.sectorsleft ≤ 0 →
    s.inbox = (List.replicate n [Event.success false, .timerCallback]).flatten ++ rest →
    ∃ t, run (2 * n) s = .next t ∧ t.inbox = rest ∧ busy t = true ∧
      t.sectorsleft = s.sectorsleft - n ∧ t.cursector = s.cursector + n ∧ t.result = s.result
end

