-- ==== Sys2Proof/Laws/Config.lean ====
section
/-! SUPPORT. What the open parameters are known to satisfy: the constraints of R10, through their accessors. -/

namespace Sys2Proof

theorem Config.tShort_pos : 0 < Config.tShort := Config.openParameters.tShort_pos

theorem Config.seekDelay_pos (n stepTime settleTime : Nat) : 0 < Config.seekDelay n stepTime settleTime :=
  Config.openParameters.seekDelay_pos n stepTime settleTime

theorem Config.revCycles_pos : 0 < Config.revCycles := Config.openParameters.revCycles_pos

/-- A short spindown is shorter than any normal one of at least one revolution (R330). -/
theorem Config.tSpindownShort_lt_normal (revs : Nat) (h : 1 ≤ revs) :
    Config.tSpindownShort < revs * Config.revCycles :=
  Nat.lt_of_lt_of_le Config.openParameters.tSpindownShort_lt (Nat.le_mul_of_pos_left _ h)

theorem Config.sidesel_off_drivesel : Config.sideselMask &&& 0xC0 = 0 := Config.openParameters.sidesel_off_drivesel

theorem Config.sidesel_one_bit : OneBit Config.sideselMask := Config.openParameters.sidesel_one_bit

theorem Config.rdsTrk0_one_bit : OneBit Config.rdsTrk0 := Config.openParameters.rdsTrk0_one_bit

theorem Config.rdsSel0_one_bit : OneBit Config.rdsSel0 := Config.openParameters.rdsSel0_one_bit

theorem Config.rdsSel1_one_bit : OneBit Config.rdsSel1 := Config.openParameters.rdsSel1_one_bit

theorem Config.rdsTrk0_off_rdsSel0 : Config.rdsTrk0 &&& Config.rdsSel0 = 0 := Config.openParameters.rdsTrk0_off_rdsSel0

theorem Config.rdsTrk0_off_rdsSel1 : Config.rdsTrk0 &&& Config.rdsSel1 = 0 := Config.openParameters.rdsTrk0_off_rdsSel1

theorem Config.rdsSel0_off_rdsSel1 : Config.rdsSel0 &&& Config.rdsSel1 = 0 := Config.openParameters.rdsSel0_off_rdsSel1

theorem Config.rdsBase_off_flags : Config.rdsBase &&& (Config.rdsTrk0 ||| Config.rdsSel0 ||| Config.rdsSel1) = 0 :=
  Config.openParameters.rdsBase_off_flags

theorem Config.srTrack0_ne_srTrack1 : Config.srTrack0 ≠ Config.srTrack1 := Config.openParameters.srTrack0_ne_srTrack1

theorem Config.srTrack0_ne_srDrvout : Config.srTrack0 ≠ Config.srDrvout := Config.openParameters.srTrack0_ne_srDrvout

theorem Config.srTrack1_ne_srDrvout : Config.srTrack1 ≠ Config.srDrvout := Config.openParameters.srTrack1_ne_srDrvout

theorem Config.srTrack0_not_ignored : Config.srTrack0 ∉ Config.srWriteIgnored :=
  Config.openParameters.srTrack0_not_ignored

theorem Config.srTrack1_not_ignored : Config.srTrack1 ∉ Config.srWriteIgnored :=
  Config.openParameters.srTrack1_not_ignored

theorem Config.srDrvout_not_ignored : Config.srDrvout ∉ Config.srWriteIgnored :=
  Config.openParameters.srDrvout_not_ignored

end Sys2Proof
end

