-- ==== Sys2Proof/Laws/Decode.lean ====
section
/-! SUPPORT. The fields of a command byte: reading back what the encoder writes, and the other way round. -/

namespace Sys2Proof

@[simp] theorem sel1Field_commandByte (sel1 sel0 : Bool) (opc : Opcode) :
    sel1Field (commandByte sel1 sel0 opc) = sel1 := by
  revert sel1 sel0 opc; decide

@[simp] theorem sel0Field_commandByte (sel1 sel0 : Bool) (opc : Opcode) :
    sel0Field (commandByte sel1 sel0 opc) = sel0 := by
  revert sel1 sel0 opc; decide

@[simp] theorem opcodeField_commandByte (sel1 sel0 : Bool) (opc : Opcode) :
    opcodeField (commandByte sel1 sel0 opc) = opc := by
  revert sel1 sel0 opc; decide

@[simp] theorem commandByte_fields (val : Byte) :
    commandByte (sel1Field val) (sel0Field val) (opcodeField val) = val := by
  revert val; decide

/-- The opcode stored for a command byte does not depend on its select bits (R91). -/
theorem normalisedOpcode_commandByte (sel1 sel0 : Bool) (opc : Opcode) :
    normalisedOpcode (commandByte sel1 sel0 opc) = if opc = 0x17 then 0x13 else opc.setWidth 8 := by
  revert sel1 sel0 opc; decide

/-- The number of parameter bytes a row of the command table takes. -/
def CommandRow.size (row : CommandRow) : Nat :=
  match row with
  | .params0 _ => 0
  | .params1 _ => 1
  | .params2 _ => 2
  | .params3 _ => 3
  | .params4 _ => 4
  | .params5 _ => 5

/-- The command table agrees with the arity table (R92, R93). -/
theorem commandRow_size (val : Byte) : (commandRow (opcodeField val)).size = arity (normalisedOpcode val) := by
  revert val; decide

/-- An arity is at most the number of slots (R23). -/
theorem arity_le (c : Byte) : arity c ≤ 5 := by revert c; decide

/-- The instruction a row makes is encoded with the row's opcode and its parameters in order. -/
def CommandRow.Encodes (row : CommandRow) (opc : Opcode) : Prop :=
  match row with
  | .params0 mk => ∀ a b, encode (mk a b) = .command [commandByte a b opc]
  | .params1 mk => ∀ a b p0, encode (mk a b p0) = .command [commandByte a b opc, p0]
  | .params2 mk => ∀ a b p0 p1, encode (mk a b p0 p1) = .command [commandByte a b opc, p0, p1]
  | .params3 mk => ∀ a b p0 p1 p2, encode (mk a b p0 p1 p2) = .command [commandByte a b opc, p0, p1, p2]
  | .params4 mk => ∀ a b p0 p1 p2 p3, encode (mk a b p0 p1 p2 p3) = .command [commandByte a b opc, p0, p1, p2, p3]
  | .params5 mk =>
    ∀ a b p0 p1 p2 p3 p4, encode (mk a b p0 p1 p2 p3 p4) = .command [commandByte a b opc, p0, p1, p2, p3, p4]

/-- Every row of the command table stands at its own opcode. -/
theorem commandRow_encodes (opc : Opcode) : (commandRow opc).Encodes opc := by
  obtain ⟨⟨n, hn⟩⟩ := opc
  interval_cases n <;> (intro _; intros; rfl)

/-- What a row reads, leaving no byte over, is encoded as the bytes read. -/
theorem CommandRow.encode_of_read (row : CommandRow) (opc : Opcode) (hrow : row.Encodes opc) (sel1 sel0 : Bool)
    (ps : List Byte) (i : Instr) (h : row.read sel1 sel0 opc ps = .ok (i, [])) :
    encode i = .command (commandByte sel1 sel0 opc :: ps) := by
  cases row <;>
    rcases ps with _ | ⟨p0, _ | ⟨p1, _ | ⟨p2, _ | ⟨p3, _ | ⟨p4, ps⟩⟩⟩⟩⟩ <;>
    simp only [CommandRow.read, Except.ok.injEq, Prod.mk.injEq, reduceCtorEq, and_true, and_false] at h <;>
    first
    | (subst h; exact hrow ..)
    | (obtain ⟨rfl, rfl⟩ := h; exact hrow ..)

/-- A row reads its parameters if there are enough of them, and leaves the others. -/
theorem CommandRow.read_ok (row : CommandRow) (sel1 sel0 : Bool) (opc : Opcode) (ps : List Byte)
    (h : row.size ≤ ps.length) : ∃ i, row.read sel1 sel0 opc ps = .ok (i, ps.drop row.size) := by
  cases row <;> simp only [CommandRow.size] at h
  case params0 mk => exact ⟨_, rfl⟩
  case params1 mk => obtain _ | ⟨p0, ps⟩ := ps <;> simp_all [CommandRow.read, CommandRow.size]
  case params2 mk => obtain _ | ⟨p0, _ | ⟨p1, ps⟩⟩ := ps <;> simp_all [CommandRow.read, CommandRow.size]
  case params3 mk => obtain _ | ⟨p0, _ | ⟨p1, _ | ⟨p2, ps⟩⟩⟩ := ps <;> simp_all [CommandRow.read, CommandRow.size]
  case params4 mk =>
    obtain _ | ⟨p0, _ | ⟨p1, _ | ⟨p2, _ | ⟨p3, ps⟩⟩⟩⟩ := ps <;> simp_all [CommandRow.read, CommandRow.size]
  case params5 mk =>
    obtain _ | ⟨p0, _ | ⟨p1, _ | ⟨p2, _ | ⟨p3, _ | ⟨p4, ps⟩⟩⟩⟩⟩ := ps <;> simp_all [CommandRow.read, CommandRow.size]

/-- A row with too few parameter bytes is refused by name. -/
theorem CommandRow.read_short (row : CommandRow) (sel1 sel0 : Bool) (opc : Opcode) (ps : List Byte)
    (h : ps.length < row.size) : row.read sel1 sel0 opc ps = .error (.missingParameters opc) := by
  cases row <;> simp only [CommandRow.size] at h
  case params0 mk => omega
  case params1 mk => obtain _ | ⟨p0, ps⟩ := ps <;> simp_all [CommandRow.read]
  case params2 mk => obtain _ | ⟨p0, _ | ⟨p1, ps⟩⟩ := ps <;> simp_all [CommandRow.read]
  case params3 mk => obtain _ | ⟨p0, _ | ⟨p1, _ | ⟨p2, ps⟩⟩⟩ := ps <;> simp_all [CommandRow.read]; omega
  case params4 mk =>
    obtain _ | ⟨p0, _ | ⟨p1, _ | ⟨p2, _ | ⟨p3, ps⟩⟩⟩⟩ := ps <;> simp_all [CommandRow.read]; omega
  case params5 mk =>
    obtain _ | ⟨p0, _ | ⟨p1, _ | ⟨p2, _ | ⟨p3, _ | ⟨p4, ps⟩⟩⟩⟩⟩ := ps <;> simp_all [CommandRow.read]; omega

/-- What the decoder reads from the bytes of a command, said once: with the bytes the opcode asks for and no more, an
instruction; otherwise a refusal by name (R93). -/
theorem decode_command (val : Byte) (ps : List Byte) :
    (ps.length = arity (normalisedOpcode val) ∧ ∃ i, decode (.command (val :: ps)) = .ok i) ∨
    (ps.length < arity (normalisedOpcode val) ∧
      decode (.command (val :: ps)) = .error (.missingParameters (opcodeField val))) ∨
    (arity (normalisedOpcode val) < ps.length ∧
      decode (.command (val :: ps)) = .error (.trailingBytes (opcodeField val))) := by
  rw [← commandRow_size]
  rcases lt_trichotomy ps.length (commandRow (opcodeField val)).size with h | h | h
  · refine .inr (.inl ⟨h, ?_⟩)
    simp [decode, decodeCommand, CommandRow.read_short _ _ _ _ _ h]
  · obtain ⟨i, hi⟩ := CommandRow.read_ok _ (sel1Field val) (sel0Field val) (opcodeField val) ps (Nat.le_of_eq h.symm)
    refine .inl ⟨h, i, ?_⟩
    simp [decode, decodeCommand, hi, ← h]
  · obtain ⟨i, hi⟩ := CommandRow.read_ok _ (sel1Field val) (sel0Field val) (opcodeField val) ps (Nat.le_of_lt h)
    refine .inr (.inr ⟨h, ?_⟩)
    obtain ⟨x, xs, hx⟩ : ∃ x xs, ps.drop (commandRow (opcodeField val)).size = x :: xs := by
      cases hd : ps.drop (commandRow (opcodeField val)).size with
      | nil => simp at hd; omega
      | cons x xs => exact ⟨x, xs, rfl⟩
    simp [decode, decodeCommand, hi, hx]

end Sys2Proof
end

