-- ==== Sys2Proof/Laws/State.lean ====
section
/-! SUPPORT. What each unconditional update of the state does to each field: one lemma per field per update, all by `rfl`,
so that no proof unfolds an update. -/

namespace Sys2Proof.Machine

@[simp] theorem note_command (l : Line) (s : State) : (note l s).command = s.command := rfl
@[simp] theorem note_params (l : Line) (s : State) : (note l s).params = s.params := rfl
@[simp] theorem note_paramnum (l : Line) (s : State) : (note l s).paramnum = s.paramnum := rfl
@[simp] theorem note_paramreq (l : Line) (s : State) : (note l s).paramreq = s.paramreq := rfl
@[simp] theorem note_status (l : Line) (s : State) : (note l s).status = s.status := rfl
@[simp] theorem note_result (l : Line) (s : State) : (note l s).result = s.result := rfl
@[simp] theorem note_curtrack (l : Line) (s : State) : (note l s).curtrack = s.curtrack := rfl
@[simp] theorem note_cursector (l : Line) (s : State) : (note l s).cursector = s.cursector := rfl
@[simp] theorem note_sectorsleft (l : Line) (s : State) : (note l s).sectorsleft = s.sectorsleft := rfl
@[simp] theorem note_bytesleft (l : Line) (s : State) : (note l s).bytesleft = s.bytesleft := rfl
@[simp] theorem note_data (l : Line) (s : State) : (note l s).data = s.data := rfl
@[simp] theorem note_written (l : Line) (s : State) : (note l s).written = s.written := rfl
@[simp] theorem note_phase (l : Line) (s : State) : (note l s).phase = s.phase := rfl
@[simp] theorem note_drvout (l : Line) (s : State) : (note l s).drvout = s.drvout := rfl
@[simp] theorem note_unloadRevs (l : Line) (s : State) : (note l s).unloadRevs = s.unloadRevs := rfl
@[simp] theorem note_stepTime (l : Line) (s : State) : (note l s).stepTime = s.stepTime := rfl
@[simp] theorem note_settleTime (l : Line) (s : State) : (note l s).settleTime = s.settleTime := rfl
@[simp] theorem note_loadTime (l : Line) (s : State) : (note l s).loadTime = s.loadTime := rfl
@[simp] theorem note_curdrive (l : Line) (s : State) : (note l s).curdrive = s.curdrive := rfl
@[simp] theorem note_motoron (l : Line) (s : State) : (note l s).motoron = s.motoron := rfl
@[simp] theorem note_timer (l : Line) (s : State) : (note l s).timer = s.timer := rfl
@[simp] theorem note_spindown (l : Line) (s : State) : (note l s).spindown = s.spindown := rfl
@[simp] theorem note_deletedLatch (l : Line) (s : State) : (note l s).deletedLatch = s.deletedLatch := rfl
@[simp] theorem note_inbox (l : Line) (s : State) : (note l s).inbox = s.inbox := rfl
@[simp] theorem note_trace (l : Line) (s : State) : (note l s).trace = s.trace ++ [l] := rfl

@[simp] theorem emit_command (o : Output) (s : State) : (emit o s).command = s.command := rfl
@[simp] theorem emit_params (o : Output) (s : State) : (emit o s).params = s.params := rfl
@[simp] theorem emit_paramnum (o : Output) (s : State) : (emit o s).paramnum = s.paramnum := rfl
@[simp] theorem emit_paramreq (o : Output) (s : State) : (emit o s).paramreq = s.paramreq := rfl
@[simp] theorem emit_status (o : Output) (s : State) : (emit o s).status = s.status := rfl
@[simp] theorem emit_result (o : Output) (s : State) : (emit o s).result = s.result := rfl
@[simp] theorem emit_curtrack (o : Output) (s : State) : (emit o s).curtrack = s.curtrack := rfl
@[simp] theorem emit_cursector (o : Output) (s : State) : (emit o s).cursector = s.cursector := rfl
@[simp] theorem emit_sectorsleft (o : Output) (s : State) : (emit o s).sectorsleft = s.sectorsleft := rfl
@[simp] theorem emit_bytesleft (o : Output) (s : State) : (emit o s).bytesleft = s.bytesleft := rfl
@[simp] theorem emit_data (o : Output) (s : State) : (emit o s).data = s.data := rfl
@[simp] theorem emit_written (o : Output) (s : State) : (emit o s).written = s.written := rfl
@[simp] theorem emit_phase (o : Output) (s : State) : (emit o s).phase = s.phase := rfl
@[simp] theorem emit_drvout (o : Output) (s : State) : (emit o s).drvout = s.drvout := rfl
@[simp] theorem emit_unloadRevs (o : Output) (s : State) : (emit o s).unloadRevs = s.unloadRevs := rfl
@[simp] theorem emit_stepTime (o : Output) (s : State) : (emit o s).stepTime = s.stepTime := rfl
@[simp] theorem emit_settleTime (o : Output) (s : State) : (emit o s).settleTime = s.settleTime := rfl
@[simp] theorem emit_loadTime (o : Output) (s : State) : (emit o s).loadTime = s.loadTime := rfl
@[simp] theorem emit_curdrive (o : Output) (s : State) : (emit o s).curdrive = s.curdrive := rfl
@[simp] theorem emit_motoron (o : Output) (s : State) : (emit o s).motoron = s.motoron := rfl
@[simp] theorem emit_timer (o : Output) (s : State) : (emit o s).timer = s.timer := rfl
@[simp] theorem emit_spindown (o : Output) (s : State) : (emit o s).spindown = s.spindown := rfl
@[simp] theorem emit_deletedLatch (o : Output) (s : State) : (emit o s).deletedLatch = s.deletedLatch := rfl
@[simp] theorem emit_inbox (o : Output) (s : State) : (emit o s).inbox = s.inbox := rfl
@[simp] theorem emit_trace (o : Output) (s : State) : (emit o s).trace = s.trace ++ [.emit o] := rfl

@[simp] theorem returnByte_command (v : Byte) (s : State) : (returnByte v s).command = s.command := rfl
@[simp] theorem returnByte_params (v : Byte) (s : State) : (returnByte v s).params = s.params := rfl
@[simp] theorem returnByte_paramnum (v : Byte) (s : State) : (returnByte v s).paramnum = s.paramnum := rfl
@[simp] theorem returnByte_paramreq (v : Byte) (s : State) : (returnByte v s).paramreq = s.paramreq := rfl
@[simp] theorem returnByte_status (v : Byte) (s : State) : (returnByte v s).status = s.status := rfl
@[simp] theorem returnByte_result (v : Byte) (s : State) : (returnByte v s).result = s.result := rfl
@[simp] theorem returnByte_curtrack (v : Byte) (s : State) : (returnByte v s).curtrack = s.curtrack := rfl
@[simp] theorem returnByte_cursector (v : Byte) (s : State) : (returnByte v s).cursector = s.cursector := rfl
@[simp] theorem returnByte_sectorsleft (v : Byte) (s : State) : (returnByte v s).sectorsleft = s.sectorsleft := rfl
@[simp] theorem returnByte_bytesleft (v : Byte) (s : State) : (returnByte v s).bytesleft = s.bytesleft := rfl
@[simp] theorem returnByte_data (v : Byte) (s : State) : (returnByte v s).data = s.data := rfl
@[simp] theorem returnByte_written (v : Byte) (s : State) : (returnByte v s).written = s.written := rfl
@[simp] theorem returnByte_phase (v : Byte) (s : State) : (returnByte v s).phase = s.phase := rfl
@[simp] theorem returnByte_drvout (v : Byte) (s : State) : (returnByte v s).drvout = s.drvout := rfl
@[simp] theorem returnByte_unloadRevs (v : Byte) (s : State) : (returnByte v s).unloadRevs = s.unloadRevs := rfl
@[simp] theorem returnByte_stepTime (v : Byte) (s : State) : (returnByte v s).stepTime = s.stepTime := rfl
@[simp] theorem returnByte_settleTime (v : Byte) (s : State) : (returnByte v s).settleTime = s.settleTime := rfl
@[simp] theorem returnByte_loadTime (v : Byte) (s : State) : (returnByte v s).loadTime = s.loadTime := rfl
@[simp] theorem returnByte_curdrive (v : Byte) (s : State) : (returnByte v s).curdrive = s.curdrive := rfl
@[simp] theorem returnByte_motoron (v : Byte) (s : State) : (returnByte v s).motoron = s.motoron := rfl
@[simp] theorem returnByte_timer (v : Byte) (s : State) : (returnByte v s).timer = s.timer := rfl
@[simp] theorem returnByte_spindown (v : Byte) (s : State) : (returnByte v s).spindown = s.spindown := rfl
@[simp] theorem returnByte_deletedLatch (v : Byte) (s : State) : (returnByte v s).deletedLatch = s.deletedLatch := rfl
@[simp] theorem returnByte_inbox (v : Byte) (s : State) : (returnByte v s).inbox = s.inbox := rfl
@[simp] theorem returnByte_trace (v : Byte) (s : State) : (returnByte v s).trace = s.trace ++ [.returned v] := rfl

@[simp] theorem setTrack_command (d : Drive) (v : Nat) (s : State) : (setTrack d v s).command = s.command := rfl
@[simp] theorem setTrack_params (d : Drive) (v : Nat) (s : State) : (setTrack d v s).params = s.params := rfl
@[simp] theorem setTrack_paramnum (d : Drive) (v : Nat) (s : State) : (setTrack d v s).paramnum = s.paramnum := rfl
@[simp] theorem setTrack_paramreq (d : Drive) (v : Nat) (s : State) : (setTrack d v s).paramreq = s.paramreq := rfl
@[simp] theorem setTrack_status (d : Drive) (v : Nat) (s : State) : (setTrack d v s).status = s.status := rfl
@[simp] theorem setTrack_result (d : Drive) (v : Nat) (s : State) : (setTrack d v s).result = s.result := rfl
@[simp] theorem setTrack_curtrack (d : Drive) (v : Nat) (s : State) : (setTrack d v s).curtrack = s.curtrack.set d v := rfl
@[simp] theorem setTrack_cursector (d : Drive) (v : Nat) (s : State) : (setTrack d v s).cursector = s.cursector := rfl
@[simp] theorem setTrack_sectorsleft (d : Drive) (v : Nat) (s : State) : (setTrack d v s).sectorsleft = s.sectorsleft := rfl
@[simp] theorem setTrack_bytesleft (d : Drive) (v : Nat) (s : State) : (setTrack d v s).bytesleft = s.bytesleft := rfl
@[simp] theorem setTrack_data (d : Drive) (v : Nat) (s : State) : (setTrack d v s).data = s.data := rfl
@[simp] theorem setTrack_written (d : Drive) (v : Nat) (s : State) : (setTrack d v s).written = s.written := rfl
@[simp] theorem setTrack_phase (d : Drive) (v : Nat) (s : State) : (setTrack d v s).phase = s.phase := rfl
@[simp] theorem setTrack_drvout (d : Drive) (v : Nat) (s : State) : (setTrack d v s).drvout = s.drvout := rfl
@[simp] theorem setTrack_unloadRevs (d : Drive) (v : Nat) (s : State) : (setTrack d v s).unloadRevs = s.unloadRevs := rfl
@[simp] theorem setTrack_stepTime (d : Drive) (v : Nat) (s : State) : (setTrack d v s).stepTime = s.stepTime := rfl
@[simp] theorem setTrack_settleTime (d : Drive) (v : Nat) (s : State) : (setTrack d v s).settleTime = s.settleTime := rfl
@[simp] theorem setTrack_loadTime (d : Drive) (v : Nat) (s : State) : (setTrack d v s).loadTime = s.loadTime := rfl
@[simp] theorem setTrack_curdrive (d : Drive) (v : Nat) (s : State) : (setTrack d v s).curdrive = s.curdrive := rfl
@[simp] theorem setTrack_motoron (d : Drive) (v : Nat) (s : State) : (setTrack d v s).motoron = s.motoron := rfl
@[simp] theorem setTrack_timer (d : Drive) (v : Nat) (s : State) : (setTrack d v s).timer = s.timer := rfl
@[simp] theorem setTrack_spindown (d : Drive) (v : Nat) (s : State) : (setTrack d v s).spindown = s.spindown := rfl
@[simp] theorem setTrack_deletedLatch (d : Drive) (v : Nat) (s : State) : (setTrack d v s).deletedLatch = s.deletedLatch := rfl
@[simp] theorem setTrack_inbox (d : Drive) (v : Nat) (s : State) : (setTrack d v s).inbox = s.inbox := rfl
@[simp] theorem setTrack_trace (d : Drive) (v : Nat) (s : State) : (setTrack d v s).trace = s.trace := rfl

@[simp] theorem clearGroup_command (g : Byte) (s : State) : (clearGroup g s).command = s.command := rfl
@[simp] theorem clearGroup_params (g : Byte) (s : State) : (clearGroup g s).params = s.params := rfl
@[simp] theorem clearGroup_paramnum (g : Byte) (s : State) : (clearGroup g s).paramnum = s.paramnum := rfl
@[simp] theorem clearGroup_paramreq (g : Byte) (s : State) : (clearGroup g s).paramreq = s.paramreq := rfl
@[simp] theorem clearGroup_status (g : Byte) (s : State) : (clearGroup g s).status = s.status &&& ~~~g := rfl
@[simp] theorem clearGroup_result (g : Byte) (s : State) : (clearGroup g s).result = s.result := rfl
@[simp] theorem clearGroup_curtrack (g : Byte) (s : State) : (clearGroup g s).curtrack = s.curtrack := rfl
@[simp] theorem clearGroup_cursector (g : Byte) (s : State) : (clearGroup g s).cursector = s.cursector := rfl
@[simp] theorem clearGroup_sectorsleft (g : Byte) (s : State) : (clearGroup g s).sectorsleft = s.sectorsleft := rfl
@[simp] theorem clearGroup_bytesleft (g : Byte) (s : State) : (clearGroup g s).bytesleft = s.bytesleft := rfl
@[simp] theorem clearGroup_data (g : Byte) (s : State) : (clearGroup g s).data = s.data := rfl
@[simp] theorem clearGroup_written (g : Byte) (s : State) : (clearGroup g s).written = s.written := rfl
@[simp] theorem clearGroup_phase (g : Byte) (s : State) : (clearGroup g s).phase = s.phase := rfl
@[simp] theorem clearGroup_drvout (g : Byte) (s : State) : (clearGroup g s).drvout = s.drvout := rfl
@[simp] theorem clearGroup_unloadRevs (g : Byte) (s : State) : (clearGroup g s).unloadRevs = s.unloadRevs := rfl
@[simp] theorem clearGroup_stepTime (g : Byte) (s : State) : (clearGroup g s).stepTime = s.stepTime := rfl
@[simp] theorem clearGroup_settleTime (g : Byte) (s : State) : (clearGroup g s).settleTime = s.settleTime := rfl
@[simp] theorem clearGroup_loadTime (g : Byte) (s : State) : (clearGroup g s).loadTime = s.loadTime := rfl
@[simp] theorem clearGroup_curdrive (g : Byte) (s : State) : (clearGroup g s).curdrive = s.curdrive := rfl
@[simp] theorem clearGroup_motoron (g : Byte) (s : State) : (clearGroup g s).motoron = s.motoron := rfl
@[simp] theorem clearGroup_timer (g : Byte) (s : State) : (clearGroup g s).timer = s.timer := rfl
@[simp] theorem clearGroup_spindown (g : Byte) (s : State) : (clearGroup g s).spindown = s.spindown := rfl
@[simp] theorem clearGroup_deletedLatch (g : Byte) (s : State) : (clearGroup g s).deletedLatch = s.deletedLatch := rfl
@[simp] theorem clearGroup_inbox (g : Byte) (s : State) : (clearGroup g s).inbox = s.inbox := rfl
@[simp] theorem clearGroup_trace (g : Byte) (s : State) : (clearGroup g s).trace = s.trace := rfl

@[simp] theorem dataReady_command (s : State) : (dataReady s).command = s.command := rfl
@[simp] theorem dataReady_params (s : State) : (dataReady s).params = s.params := rfl
@[simp] theorem dataReady_paramnum (s : State) : (dataReady s).paramnum = s.paramnum := rfl
@[simp] theorem dataReady_paramreq (s : State) : (dataReady s).paramreq = s.paramreq := rfl
@[simp] theorem dataReady_status (s : State) : (dataReady s).status = 0x8C := rfl
@[simp] theorem dataReady_result (s : State) : (dataReady s).result = s.result := rfl
@[simp] theorem dataReady_curtrack (s : State) : (dataReady s).curtrack = s.curtrack := rfl
@[simp] theorem dataReady_cursector (s : State) : (dataReady s).cursector = s.cursector := rfl
@[simp] theorem dataReady_sectorsleft (s : State) : (dataReady s).sectorsleft = s.sectorsleft := rfl
@[simp] theorem dataReady_bytesleft (s : State) : (dataReady s).bytesleft = s.bytesleft := rfl
@[simp] theorem dataReady_data (s : State) : (dataReady s).data = s.data := rfl
@[simp] theorem dataReady_written (s : State) : (dataReady s).written = s.written := rfl
@[simp] theorem dataReady_phase (s : State) : (dataReady s).phase = s.phase := rfl
@[simp] theorem dataReady_drvout (s : State) : (dataReady s).drvout = s.drvout := rfl
@[simp] theorem dataReady_unloadRevs (s : State) : (dataReady s).unloadRevs = s.unloadRevs := rfl
@[simp] theorem dataReady_stepTime (s : State) : (dataReady s).stepTime = s.stepTime := rfl
@[simp] theorem dataReady_settleTime (s : State) : (dataReady s).settleTime = s.settleTime := rfl
@[simp] theorem dataReady_loadTime (s : State) : (dataReady s).loadTime = s.loadTime := rfl
@[simp] theorem dataReady_curdrive (s : State) : (dataReady s).curdrive = s.curdrive := rfl
@[simp] theorem dataReady_motoron (s : State) : (dataReady s).motoron = s.motoron := rfl
@[simp] theorem dataReady_timer (s : State) : (dataReady s).timer = s.timer := rfl
@[simp] theorem dataReady_spindown (s : State) : (dataReady s).spindown = s.spindown := rfl
@[simp] theorem dataReady_deletedLatch (s : State) : (dataReady s).deletedLatch = s.deletedLatch := rfl
@[simp] theorem dataReady_inbox (s : State) : (dataReady s).inbox = s.inbox := rfl
@[simp] theorem dataReady_trace (s : State) : (dataReady s).trace = s.trace := rfl

@[simp] theorem ready_command (s : State) : (ready s).command = s.command := rfl
@[simp] theorem ready_params (s : State) : (ready s).params = s.params := rfl
@[simp] theorem ready_paramnum (s : State) : (ready s).paramnum = s.paramnum := rfl
@[simp] theorem ready_paramreq (s : State) : (ready s).paramreq = s.paramreq := rfl
@[simp] theorem ready_status (s : State) : (ready s).status = 0x10 := rfl
@[simp] theorem ready_result (s : State) : (ready s).result = s.result := rfl
@[simp] theorem ready_curtrack (s : State) : (ready s).curtrack = s.curtrack := rfl
@[simp] theorem ready_cursector (s : State) : (ready s).cursector = s.cursector := rfl
@[simp] theorem ready_sectorsleft (s : State) : (ready s).sectorsleft = s.sectorsleft := rfl
@[simp] theorem ready_bytesleft (s : State) : (ready s).bytesleft = s.bytesleft := rfl
@[simp] theorem ready_data (s : State) : (ready s).data = s.data := rfl
@[simp] theorem ready_written (s : State) : (ready s).written = s.written := rfl
@[simp] theorem ready_phase (s : State) : (ready s).phase = s.phase := rfl
@[simp] theorem ready_drvout (s : State) : (ready s).drvout = s.drvout := rfl
@[simp] theorem ready_unloadRevs (s : State) : (ready s).unloadRevs = s.unloadRevs := rfl
@[simp] theorem ready_stepTime (s : State) : (ready s).stepTime = s.stepTime := rfl
@[simp] theorem ready_settleTime (s : State) : (ready s).settleTime = s.settleTime := rfl
@[simp] theorem ready_loadTime (s : State) : (ready s).loadTime = s.loadTime := rfl
@[simp] theorem ready_curdrive (s : State) : (ready s).curdrive = s.curdrive := rfl
@[simp] theorem ready_motoron (s : State) : (ready s).motoron = s.motoron := rfl
@[simp] theorem ready_timer (s : State) : (ready s).timer = s.timer := rfl
@[simp] theorem ready_spindown (s : State) : (ready s).spindown = s.spindown := rfl
@[simp] theorem ready_deletedLatch (s : State) : (ready s).deletedLatch = s.deletedLatch := rfl
@[simp] theorem ready_inbox (s : State) : (ready s).inbox = s.inbox := rfl
@[simp] theorem ready_trace (s : State) : (ready s).trace = s.trace := rfl

@[simp] theorem complete_command (s : State) : (complete s).command = s.command := rfl
@[simp] theorem complete_params (s : State) : (complete s).params = s.params := rfl
@[simp] theorem complete_paramnum (s : State) : (complete s).paramnum = s.paramnum := rfl
@[simp] theorem complete_paramreq (s : State) : (complete s).paramreq = s.paramreq := rfl
@[simp] theorem complete_status (s : State) : (complete s).status = 0x00 := rfl
@[simp] theorem complete_result (s : State) : (complete s).result = s.result := rfl
@[simp] theorem complete_curtrack (s : State) : (complete s).curtrack = s.curtrack := rfl
@[simp] theorem complete_cursector (s : State) : (complete s).cursector = s.cursector := rfl
@[simp] theorem complete_sectorsleft (s : State) : (complete s).sectorsleft = s.sectorsleft := rfl
@[simp] theorem complete_bytesleft (s : State) : (complete s).bytesleft = s.bytesleft := rfl
@[simp] theorem complete_data (s : State) : (complete s).data = s.data := rfl
@[simp] theorem complete_written (s : State) : (complete s).written = s.written := rfl
@[simp] theorem complete_phase (s : State) : (complete s).phase = s.phase := rfl
@[simp] theorem complete_drvout (s : State) : (complete s).drvout = s.drvout := rfl
@[simp] theorem complete_unloadRevs (s : State) : (complete s).unloadRevs = s.unloadRevs := rfl
@[simp] theorem complete_stepTime (s : State) : (complete s).stepTime = s.stepTime := rfl
@[simp] theorem complete_settleTime (s : State) : (complete s).settleTime = s.settleTime := rfl
@[simp] theorem complete_loadTime (s : State) : (complete s).loadTime = s.loadTime := rfl
@[simp] theorem complete_curdrive (s : State) : (complete s).curdrive = s.curdrive := rfl
@[simp] theorem complete_motoron (s : State) : (complete s).motoron = s.motoron := rfl
@[simp] theorem complete_timer (s : State) : (complete s).timer = s.timer := rfl
@[simp] theorem complete_spindown (s : State) : (complete s).spindown = s.spindown := rfl
@[simp] theorem complete_deletedLatch (s : State) : (complete s).deletedLatch = s.deletedLatch := rfl
@[simp] theorem complete_inbox (s : State) : (complete s).inbox = s.inbox := rfl
@[simp] theorem complete_trace (s : State) : (complete s).trace = s.trace := rfl

@[simp] theorem spindownNormal_command (s : State) : (spindownNormal s).command = s.command := rfl
@[simp] theorem spindownNormal_params (s : State) : (spindownNormal s).params = s.params := rfl
@[simp] theorem spindownNormal_paramnum (s : State) : (spindownNormal s).paramnum = s.paramnum := rfl
@[simp] theorem spindownNormal_paramreq (s : State) : (spindownNormal s).paramreq = s.paramreq := rfl
@[simp] theorem spindownNormal_status (s : State) : (spindownNormal s).status = s.status := rfl
@[simp] theorem spindownNormal_result (s : State) : (spindownNormal s).result = s.result := rfl
@[simp] theorem spindownNormal_curtrack (s : State) : (spindownNormal s).curtrack = s.curtrack := rfl
@[simp] theorem spindownNormal_cursector (s : State) : (spindownNormal s).cursector = s.cursector := rfl
@[simp] theorem spindownNormal_sectorsleft (s : State) : (spindownNormal s).sectorsleft = s.sectorsleft := rfl
@[simp] theorem spindownNormal_bytesleft (s : State) : (spindownNormal s).bytesleft = s.bytesleft := rfl
@[simp] theorem spindownNormal_data (s : State) : (spindownNormal s).data = s.data := rfl
@[simp] theorem spindownNormal_written (s : State) : (spindownNormal s).written = s.written := rfl
@[simp] theorem spindownNormal_phase (s : State) : (spindownNormal s).phase = s.phase := rfl
@[simp] theorem spindownNormal_drvout (s : State) : (spindownNormal s).drvout = s.drvout := rfl
@[simp] theorem spindownNormal_unloadRevs (s : State) : (spindownNormal s).unloadRevs = s.unloadRevs := rfl
@[simp] theorem spindownNormal_stepTime (s : State) : (spindownNormal s).stepTime = s.stepTime := rfl
@[simp] theorem spindownNormal_settleTime (s : State) : (spindownNormal s).settleTime = s.settleTime := rfl
@[simp] theorem spindownNormal_loadTime (s : State) : (spindownNormal s).loadTime = s.loadTime := rfl
@[simp] theorem spindownNormal_curdrive (s : State) : (spindownNormal s).curdrive = s.curdrive := rfl
@[simp] theorem spindownNormal_motoron (s : State) : (spindownNormal s).motoron = s.motoron := rfl
@[simp] theorem spindownNormal_timer (s : State) : (spindownNormal s).timer = s.timer := rfl
@[simp] theorem spindownNormal_spindown (s : State) : (spindownNormal s).spindown = some (s.unloadRevs * Config.revCycles) := rfl
@[simp] theorem spindownNormal_deletedLatch (s : State) : (spindownNormal s).deletedLatch = s.deletedLatch := rfl
@[simp] theorem spindownNormal_inbox (s : State) : (spindownNormal s).inbox = s.inbox := rfl
@[simp] theorem spindownNormal_trace (s : State) : (spindownNormal s).trace = s.trace := rfl

@[simp] theorem spindownShort_command (s : State) : (spindownShort s).command = s.command := rfl
@[simp] theorem spindownShort_params (s : State) : (spindownShort s).params = s.params := rfl
@[simp] theorem spindownShort_paramnum (s : State) : (spindownShort s).paramnum = s.paramnum := rfl
@[simp] theorem spindownShort_paramreq (s : State) : (spindownShort s).paramreq = s.paramreq := rfl
@[simp] theorem spindownShort_status (s : State) : (spindownShort s).status = s.status := rfl
@[simp] theorem spindownShort_result (s : State) : (spindownShort s).result = s.result := rfl
@[simp] theorem spindownShort_curtrack (s : State) : (spindownShort s).curtrack = s.curtrack := rfl
@[simp] theorem spindownShort_cursector (s : State) : (spindownShort s).cursector = s.cursector := rfl
@[simp] theorem spindownShort_sectorsleft (s : State) : (spindownShort s).sectorsleft = s.sectorsleft := rfl
@[simp] theorem spindownShort_bytesleft (s : State) : (spindownShort s).bytesleft = s.bytesleft := rfl
@[simp] theorem spindownShort_data (s : State) : (spindownShort s).data = s.data := rfl
@[simp] theorem spindownShort_written (s : State) : (spindownShort s).written = s.written := rfl
@[simp] theorem spindownShort_phase (s : State) : (spindownShort s).phase = s.phase := rfl
@[simp] theorem spindownShort_drvout (s : State) : (spindownShort s).drvout = s.drvout := rfl
@[simp] theorem spindownShort_unloadRevs (s : State) : (spindownShort s).unloadRevs = s.unloadRevs := rfl
@[simp] theorem spindownShort_stepTime (s : State) : (spindownShort s).stepTime = s.stepTime := rfl
@[simp] theorem spindownShort_settleTime (s : State) : (spindownShort s).settleTime = s.settleTime := rfl
@[simp] theorem spindownShort_loadTime (s : State) : (spindownShort s).loadTime = s.loadTime := rfl
@[simp] theorem spindownShort_curdrive (s : State) : (spindownShort s).curdrive = s.curdrive := rfl
@[simp] theorem spindownShort_motoron (s : State) : (spindownShort s).motoron = s.motoron := rfl
@[simp] theorem spindownShort_timer (s : State) : (spindownShort s).timer = s.timer := rfl
@[simp] theorem spindownShort_spindown (s : State) : (spindownShort s).spindown = some Config.tSpindownShort := rfl
@[simp] theorem spindownShort_deletedLatch (s : State) : (spindownShort s).deletedLatch = s.deletedLatch := rfl
@[simp] theorem spindownShort_inbox (s : State) : (spindownShort s).inbox = s.inbox := rfl
@[simp] theorem spindownShort_trace (s : State) : (spindownShort s).trace = s.trace := rfl

@[simp] theorem terminal_command (s : State) : (terminal s).command = s.command := rfl
@[simp] theorem terminal_params (s : State) : (terminal s).params = s.params := rfl
@[simp] theorem terminal_paramnum (s : State) : (terminal s).paramnum = s.paramnum := rfl
@[simp] theorem terminal_paramreq (s : State) : (terminal s).paramreq = s.paramreq := rfl
@[simp] theorem terminal_status (s : State) : (terminal s).status = 0x18 := rfl
@[simp] theorem terminal_result (s : State) : (terminal s).result = if s.deletedLatch then 0x20 else 0x00 := rfl
@[simp] theorem terminal_curtrack (s : State) : (terminal s).curtrack = s.curtrack := rfl
@[simp] theorem terminal_cursector (s : State) : (terminal s).cursector = s.cursector := rfl
@[simp] theorem terminal_sectorsleft (s : State) : (terminal s).sectorsleft = s.sectorsleft := rfl
@[simp] theorem terminal_bytesleft (s : State) : (terminal s).bytesleft = s.bytesleft := rfl
@[simp] theorem terminal_data (s : State) : (terminal s).data = s.data := rfl
@[simp] theorem terminal_written (s : State) : (terminal s).written = s.written := rfl
@[simp] theorem terminal_phase (s : State) : (terminal s).phase = s.phase := rfl
@[simp] theorem terminal_drvout (s : State) : (terminal s).drvout = s.drvout := rfl
@[simp] theorem terminal_unloadRevs (s : State) : (terminal s).unloadRevs = s.unloadRevs := rfl
@[simp] theorem terminal_stepTime (s : State) : (terminal s).stepTime = s.stepTime := rfl
@[simp] theorem terminal_settleTime (s : State) : (terminal s).settleTime = s.settleTime := rfl
@[simp] theorem terminal_loadTime (s : State) : (terminal s).loadTime = s.loadTime := rfl
@[simp] theorem terminal_curdrive (s : State) : (terminal s).curdrive = s.curdrive := rfl
@[simp] theorem terminal_motoron (s : State) : (terminal s).motoron = s.motoron := rfl
@[simp] theorem terminal_timer (s : State) : (terminal s).timer = s.timer := rfl
@[simp] theorem terminal_spindown (s : State) : (terminal s).spindown = s.spindown := rfl
@[simp] theorem terminal_deletedLatch (s : State) : (terminal s).deletedLatch = false := rfl
@[simp] theorem terminal_inbox (s : State) : (terminal s).inbox = s.inbox := rfl
@[simp] theorem terminal_trace (s : State) : (terminal s).trace = s.trace := rfl

@[simp] theorem errorCompletion_command (code : Byte) (s : State) : (errorCompletion code s).command = s.command := rfl
@[simp] theorem errorCompletion_params (code : Byte) (s : State) : (errorCompletion code s).params = s.params := rfl
@[simp] theorem errorCompletion_paramnum (code : Byte) (s : State) : (errorCompletion code s).paramnum = s.paramnum := rfl
@[simp] theorem errorCompletion_paramreq (code : Byte) (s : State) : (errorCompletion code s).paramreq = s.paramreq := rfl
@[simp] theorem errorCompletion_status (code : Byte) (s : State) : (errorCompletion code s).status = 0x18 := rfl
@[simp] theorem errorCompletion_result (code : Byte) (s : State) : (errorCompletion code s).result = code := rfl
@[simp] theorem errorCompletion_curtrack (code : Byte) (s : State) : (errorCompletion code s).curtrack = s.curtrack := rfl
@[simp] theorem errorCompletion_cursector (code : Byte) (s : State) : (errorCompletion code s).cursector = s.cursector := rfl
@[simp] theorem errorCompletion_sectorsleft (code : Byte) (s : State) : (errorCompletion code s).sectorsleft = s.sectorsleft := rfl
@[simp] theorem errorCompletion_bytesleft (code : Byte) (s : State) : (errorCompletion code s).bytesleft = s.bytesleft := rfl
@[simp] theorem errorCompletion_data (code : Byte) (s : State) : (errorCompletion code s).data = s.data := rfl
@[simp] theorem errorCompletion_written (code : Byte) (s : State) : (errorCompletion code s).written = s.written := rfl
@[simp] theorem errorCompletion_phase (code : Byte) (s : State) : (errorCompletion code s).phase = s.phase := rfl
@[simp] theorem errorCompletion_drvout (code : Byte) (s : State) : (errorCompletion code s).drvout = s.drvout := rfl
@[simp] theorem errorCompletion_unloadRevs (code : Byte) (s : State) : (errorCompletion code s).unloadRevs = s.unloadRevs := rfl
@[simp] theorem errorCompletion_stepTime (code : Byte) (s : State) : (errorCompletion code s).stepTime = s.stepTime := rfl
@[simp] theorem errorCompletion_settleTime (code : Byte) (s : State) : (errorCompletion code s).settleTime = s.settleTime := rfl
@[simp] theorem errorCompletion_loadTime (code : Byte) (s : State) : (errorCompletion code s).loadTime = s.loadTime := rfl
@[simp] theorem errorCompletion_curdrive (code : Byte) (s : State) : (errorCompletion code s).curdrive = s.curdrive := rfl
@[simp] theorem errorCompletion_motoron (code : Byte) (s : State) : (errorCompletion code s).motoron = s.motoron := rfl
@[simp] theorem errorCompletion_timer (code : Byte) (s : State) : (errorCompletion code s).timer = 0 := rfl
@[simp] theorem errorCompletion_spindown (code : Byte) (s : State) : (errorCompletion code s).spindown = s.spindown := rfl
@[simp] theorem errorCompletion_deletedLatch (code : Byte) (s : State) : (errorCompletion code s).deletedLatch = s.deletedLatch := rfl
@[simp] theorem errorCompletion_inbox (code : Byte) (s : State) : (errorCompletion code s).inbox = s.inbox := rfl
@[simp] theorem errorCompletion_trace (code : Byte) (s : State) : (errorCompletion code s).trace = s.trace := rfl

@[simp] theorem phaseZeroEntry_command (s : State) : (phaseZeroEntry s).command = s.command := rfl
@[simp] theorem phaseZeroEntry_params (s : State) : (phaseZeroEntry s).params = s.params := rfl
@[simp] theorem phaseZeroEntry_paramnum (s : State) : (phaseZeroEntry s).paramnum = s.paramnum := rfl
@[simp] theorem phaseZeroEntry_paramreq (s : State) : (phaseZeroEntry s).paramreq = s.paramreq := rfl
@[simp] theorem phaseZeroEntry_status (s : State) : (phaseZeroEntry s).status = s.status := rfl
@[simp] theorem phaseZeroEntry_result (s : State) : (phaseZeroEntry s).result = s.result := rfl
@[simp] theorem phaseZeroEntry_curtrack (s : State) : (phaseZeroEntry s).curtrack = s.curtrack.set s.curdrive s.params[0].toNat := rfl
@[simp] theorem phaseZeroEntry_cursector (s : State) : (phaseZeroEntry s).cursector = s.cursector := rfl
@[simp] theorem phaseZeroEntry_sectorsleft (s : State) : (phaseZeroEntry s).sectorsleft = s.sectorsleft := rfl
@[simp] theorem phaseZeroEntry_bytesleft (s : State) : (phaseZeroEntry s).bytesleft = s.bytesleft := rfl
@[simp] theorem phaseZeroEntry_data (s : State) : (phaseZeroEntry s).data = s.data := rfl
@[simp] theorem phaseZeroEntry_written (s : State) : (phaseZeroEntry s).written = s.written := rfl
@[simp] theorem phaseZeroEntry_phase (s : State) : (phaseZeroEntry s).phase = .one := rfl
@[simp] theorem phaseZeroEntry_drvout (s : State) : (phaseZeroEntry s).drvout = s.drvout := rfl
@[simp] theorem phaseZeroEntry_unloadRevs (s : State) : (phaseZeroEntry s).unloadRevs = s.unloadRevs := rfl
@[simp] theorem phaseZeroEntry_stepTime (s : State) : (phaseZeroEntry s).stepTime = s.stepTime := rfl
@[simp] theorem phaseZeroEntry_settleTime (s : State) : (phaseZeroEntry s).settleTime = s.settleTime := rfl
@[simp] theorem phaseZeroEntry_loadTime (s : State) : (phaseZeroEntry s).loadTime = s.loadTime := rfl
@[simp] theorem phaseZeroEntry_curdrive (s : State) : (phaseZeroEntry s).curdrive = s.curdrive := rfl
@[simp] theorem phaseZeroEntry_motoron (s : State) : (phaseZeroEntry s).motoron = s.motoron := rfl
@[simp] theorem phaseZeroEntry_timer (s : State) : (phaseZeroEntry s).timer = s.timer := rfl
@[simp] theorem phaseZeroEntry_spindown (s : State) : (phaseZeroEntry s).spindown = s.spindown := rfl
@[simp] theorem phaseZeroEntry_deletedLatch (s : State) : (phaseZeroEntry s).deletedLatch = s.deletedLatch := rfl
@[simp] theorem phaseZeroEntry_inbox (s : State) : (phaseZeroEntry s).inbox = s.inbox := rfl
@[simp] theorem phaseZeroEntry_trace (s : State) : (phaseZeroEntry s).trace = s.trace := rfl

@[simp] theorem powerOn_command (s : State) : (powerOn s).command = State.reset.command := rfl
@[simp] theorem powerOn_params (s : State) : (powerOn s).params = State.reset.params := rfl
@[simp] theorem powerOn_paramnum (s : State) : (powerOn s).paramnum = State.reset.paramnum := rfl
@[simp] theorem powerOn_paramreq (s : State) : (powerOn s).paramreq = State.reset.paramreq := rfl
@[simp] theorem powerOn_status (s : State) : (powerOn s).status = State.reset.status := rfl
@[simp] theorem powerOn_result (s : State) : (powerOn s).result = State.reset.result := rfl
@[simp] theorem powerOn_curtrack (s : State) : (powerOn s).curtrack = State.reset.curtrack := rfl
@[simp] theorem powerOn_cursector (s : State) : (powerOn s).cursector = State.reset.cursector := rfl
@[simp] theorem powerOn_sectorsleft (s : State) : (powerOn s).sectorsleft = State.reset.sectorsleft := rfl
@[simp] theorem powerOn_bytesleft (s : State) : (powerOn s).bytesleft = State.reset.bytesleft := rfl
@[simp] theorem powerOn_data (s : State) : (powerOn s).data = State.reset.data := rfl
@[simp] theorem powerOn_written (s : State) : (powerOn s).written = State.reset.written := rfl
@[simp] theorem powerOn_phase (s : State) : (powerOn s).phase = State.reset.phase := rfl
@[simp] theorem powerOn_drvout (s : State) : (powerOn s).drvout = State.reset.drvout := rfl
@[simp] theorem powerOn_unloadRevs (s : State) : (powerOn s).unloadRevs = State.reset.unloadRevs := rfl
@[simp] theorem powerOn_stepTime (s : State) : (powerOn s).stepTime = State.reset.stepTime := rfl
@[simp] theorem powerOn_settleTime (s : State) : (powerOn s).settleTime = State.reset.settleTime := rfl
@[simp] theorem powerOn_loadTime (s : State) : (powerOn s).loadTime = State.reset.loadTime := rfl
@[simp] theorem powerOn_curdrive (s : State) : (powerOn s).curdrive = State.reset.curdrive := rfl
@[simp] theorem powerOn_motoron (s : State) : (powerOn s).motoron = State.reset.motoron := rfl
@[simp] theorem powerOn_timer (s : State) : (powerOn s).timer = State.reset.timer := rfl
@[simp] theorem powerOn_spindown (s : State) : (powerOn s).spindown = State.reset.spindown := rfl
@[simp] theorem powerOn_deletedLatch (s : State) : (powerOn s).deletedLatch = State.reset.deletedLatch := rfl
@[simp] theorem powerOn_inbox (s : State) : (powerOn s).inbox = s.inbox := rfl
@[simp] theorem powerOn_trace (s : State) : (powerOn s).trace = s.trace := rfl

@[simp] theorem controllerReset_command (s : State) : (controllerReset s).command = State.reset.command := rfl
@[simp] theorem controllerReset_params (s : State) : (controllerReset s).params = State.reset.params := rfl
@[simp] theorem controllerReset_paramnum (s : State) : (controllerReset s).paramnum = State.reset.paramnum := rfl
@[simp] theorem controllerReset_paramreq (s : State) : (controllerReset s).paramreq = State.reset.paramreq := rfl
@[simp] theorem controllerReset_status (s : State) : (controllerReset s).status = State.reset.status := rfl
@[simp] theorem controllerReset_result (s : State) : (controllerReset s).result = State.reset.result := rfl
@[simp] theorem controllerReset_curtrack (s : State) : (controllerReset s).curtrack = State.reset.curtrack := rfl
@[simp] theorem controllerReset_cursector (s : State) : (controllerReset s).cursector = State.reset.cursector := rfl
@[simp] theorem controllerReset_sectorsleft (s : State) : (controllerReset s).sectorsleft = State.reset.sectorsleft := rfl
@[simp] theorem controllerReset_bytesleft (s : State) : (controllerReset s).bytesleft = State.reset.bytesleft := rfl
@[simp] theorem controllerReset_data (s : State) : (controllerReset s).data = State.reset.data := rfl
@[simp] theorem controllerReset_written (s : State) : (controllerReset s).written = State.reset.written := rfl
@[simp] theorem controllerReset_phase (s : State) : (controllerReset s).phase = State.reset.phase := rfl
@[simp] theorem controllerReset_drvout (s : State) : (controllerReset s).drvout = State.reset.drvout := rfl
@[simp] theorem controllerReset_unloadRevs (s : State) : (controllerReset s).unloadRevs = State.reset.unloadRevs := rfl
@[simp] theorem controllerReset_stepTime (s : State) : (controllerReset s).stepTime = State.reset.stepTime := rfl
@[simp] theorem controllerReset_settleTime (s : State) : (controllerReset s).settleTime = State.reset.settleTime := rfl
@[simp] theorem controllerReset_loadTime (s : State) : (controllerReset s).loadTime = State.reset.loadTime := rfl
@[simp] theorem controllerReset_curdrive (s : State) : (controllerReset s).curdrive = State.reset.curdrive := rfl
@[simp] theorem controllerReset_motoron (s : State) : (controllerReset s).motoron = s.motoron := rfl
@[simp] theorem controllerReset_timer (s : State) : (controllerReset s).timer = State.reset.timer := rfl
@[simp] theorem controllerReset_spindown (s : State) : (controllerReset s).spindown = s.spindown := rfl
@[simp] theorem controllerReset_deletedLatch (s : State) : (controllerReset s).deletedLatch = State.reset.deletedLatch := rfl
@[simp] theorem controllerReset_inbox (s : State) : (controllerReset s).inbox = s.inbox := rfl
@[simp] theorem controllerReset_trace (s : State) : (controllerReset s).trace = s.trace := rfl

end Sys2Proof.Machine
end

