-- ==== Sys2Proof/Laws/Ops.lean ====
section
/-! SUPPORT. For each shared operation, one lemma that says once everything it does: the state it gives, as one record. A
proof cites these instead of unfolding an operation. -/

namespace Sys2Proof.Machine

/-! ## The collector's store -/

theorem storeParam_of_lt (val : Byte) (s : State) (h : s.paramnum < 5) :
    storeParam val s = { s with params := s.params.set s.paramnum val h, paramnum := s.paramnum + 1 } :=
  dif_pos h

theorem storeParam_of_ge (val : Byte) (s : State) (h : 5 ≤ s.paramnum) : storeParam val s = s :=
  dif_neg (Nat.not_lt.mpr h)

/-! ## The motor -/

theorem spinUp_eq (d : Drive) (s : State) :
    spinUp d s =
      { s with spindown := none, motoron := true, trace := s.trace ++ spinUpLines s.motoron d } := by
  rcases s with ⟨⟩
  simp only [spinUp, spinUpLines]
  split <;> simp_all [emit, note]

theorem spinDown_eq (s : State) :
    spinDown s =
      { s with
        motoron := false
        drvout := if s.motoron then s.drvout &&& 0x3F else s.drvout
        trace := s.trace ++ if s.motoron then spinDownLines else [] } := by
  rcases s with ⟨⟩
  simp only [spinDown, spinDownLines]
  split <;> simp_all [emit, note, driveselMask]

/-! ## The seek helper and the starts -/

theorem seek_eq (s : State) :
    seek s =
      { s with
        timer := seekCycles s.curdrive s.params[0] s
        trace := s.trace ++ [.emit (seekRequest s.curdrive s.params[0] s)] } := by
  simp only [seek, seekCycles, seekRequest, seekDistance]
  split <;> rfl

theorem offTrack_iff (s : State) : offTrack s = true ↔ s.params[0].toNat ≠ s.curtrack[s.curdrive] := by
  simp [offTrack]

theorem seekOrDelay_eq (s : State) :
    seekOrDelay s =
      { s with
        timer := if s.params[0].toNat = s.curtrack[s.curdrive] then Config.tShort
          else seekCycles s.curdrive s.params[0] s
        trace := s.trace ++
          if s.params[0].toNat = s.curtrack[s.curdrive] then [] else [.emit (seekRequest s.curdrive s.params[0] s)] } := by
  by_cases h : s.params[0].toNat = s.curtrack[s.curdrive]
  · have h' : offTrack s = false := by simpa [offTrack] using h
    rw [if_pos h, if_pos h, seekOrDelay, h']
    simp
  · have h' : offTrack s = true := (offTrack_iff s).mpr h
    rw [if_neg h, if_neg h, seekOrDelay, if_pos h', seek_eq]

theorem seekStart_eq (s : State) :
    seekStart s =
      { s with
        spindown := none
        motoron := true
        timer := seekCycles s.curdrive s.params[0] s
        trace := s.trace ++ .emit (seekRequest s.curdrive s.params[0] s) :: spinUpLines s.motoron s.curdrive } := by
  simp [seekStart, spinUp_eq, seek_eq]

theorem formatStart_eq (s : State) :
    formatStart s =
      { s with
        spindown := none
        motoron := true
        phase := .zero
        timer := if s.params[0].toNat = s.curtrack[s.curdrive] then Config.tShort
          else seekCycles s.curdrive s.params[0] s
        trace := s.trace ++ (spinUpLines s.motoron s.curdrive ++
          if s.params[0].toNat = s.curtrack[s.curdrive] then [] else [.emit (seekRequest s.curdrive s.params[0] s)]) } := by
  simp [formatStart, seekOrDelay_eq, spinUp_eq, seekCycles, seekRequest]

theorem sectorStart_eq (s : State) :
    sectorStart s =
      { s with
        sectorsleft := sectorCount s.params[2]
        cursector := s.params[1].toNat
        bytesleft := if s.command = 0x13 then sectorLength s.params[2] else s.bytesleft
        spindown := none
        motoron := true
        phase := .zero
        timer := if s.params[0].toNat = s.curtrack[s.curdrive] then Config.tShort
          else seekCycles s.curdrive s.params[0] s
        trace := s.trace ++ (spinUpLines s.motoron s.curdrive ++
          if s.params[0].toNat = s.curtrack[s.curdrive] then [] else [.emit (seekRequest s.curdrive s.params[0] s)]) } := by
  simp [sectorStart, seekOrDelay_eq, spinUp_eq, seekCycles, seekRequest]

/-! ## Operands, in arithmetic -/

theorem sectorCount_eq (b : Byte) : sectorCount b = b.toNat % 32 := by revert b; decide

theorem sectorLength_eq (b : Byte) : sectorLength b = 128 * 2 ^ (b.toNat / 32) := by revert b; decide

theorem unloadField_eq (b : Byte) : unloadField b = b.toNat / 16 := by revert b; decide

theorem loadTimeOf_eq (b : Byte) : loadTimeOf b = b.toNat % 16 * 4000 := by revert b; decide

theorem timeOf_eq (b : Byte) : timeOf b = b.toNat * 2000 := rfl

theorem side_eq (s : State) : side s = sideNamed s.drvout := by
  by_cases h : s.drvout &&& Config.sideselMask = 0
  · rw [side, sideNamed, if_neg (not_not.mpr h), if_pos h]
  · rw [side, sideNamed, if_pos h, if_neg h]

theorem driveOf_commandByte (sel1 sel0 : Bool) (opc : Opcode) :
    driveOf (commandByte sel1 sel0 opc) = driveNamed sel1 := by
  simp [driveOf, driveNamed]

theorem selectBits_commandByte (drvout : Byte) (sel1 sel0 : Bool) (opc : Opcode) :
    selectBits drvout (commandByte sel1 sel0 opc) = drvoutSelected drvout sel1 sel0 := by
  have h : commandByte sel1 sel0 opc &&& driveselMask = (if sel1 then 0x80 else 0x00) ||| (if sel0 then 0x40 else 0x00) := by
    revert sel1 sel0 opc; decide
  rw [selectBits, h]
  rfl

/-! ## The specifics of each completion -/

theorem specify_eq (s : State) :
    specify s =
      { s with
        stepTime := if s.params[0] = 0x0D then s.params[1].toNat * 2000 else s.stepTime
        settleTime := if s.params[0] = 0x0D then s.params[2].toNat * 2000 else s.settleTime
        unloadRevs := if s.params[0] = 0x0D then s.params[3].toNat / 16 else s.unloadRevs
        loadTime := if s.params[0] = 0x0D then s.params[3].toNat % 16 * 4000 else s.loadTime
        status := 0x00 } := by
  rw [← unloadField_eq, ← loadTimeOf_eq, ← timeOf_eq, ← timeOf_eq]
  by_cases h : s.params[0] = 0x0D
  · rw [specify, if_pos h, if_pos h, if_pos h, if_pos h, if_pos h]; rfl
  · rw [specify, if_neg h, if_neg h, if_neg h, if_neg h, if_neg h]; rfl

theorem seekDone_eq (s : State) :
    seekDone s =
      { s with
        curtrack := s.curtrack.set s.curdrive s.params[0].toNat
        status := 0x18
        result := if s.deletedLatch then 0x20 else 0x00
        deletedLatch := false
        spindown := some (s.unloadRevs * Config.revCycles) } := rfl

theorem errorOutcome_of_command (code : Byte) (s : State) (h : s.command ≠ 0xFF) :
    errorOutcome code s =
      { s with
        result := code
        status := 0x18
        timer := 0
        deletedLatch := false
        spindown := some Config.tSpindownShort } :=
  if_neg h

theorem errorOutcome_of_reset (code : Byte) (s : State) (h : s.command = 0xFF) : errorOutcome code s = s := if_pos h

/-! ## Acceptance -/

theorem accept_eq (val : Byte) (s : State) :
    accept val s =
      { s with
        command := normalisedOpcode val
        drvout := if normalisedOpcode val < 0x2C then selectBits s.drvout val else s.drvout
        curdrive := driveOf val
        paramnum := 0
        paramreq := arity (normalisedOpcode val)
        status := 0x80
        deletedLatch := false
        trace := s.trace ++ [.emit (.setDriveActive (driveOf val) true)] } := rfl

theorem writeCommand_of_busy (val : Byte) (s : State) (h : busy s = true) : writeCommand val s = s := if_pos h

theorem writeCommand_of_idle (val : Byte) (s : State) (h : busy s = false) : writeCommand val s = acceptCommand val s := by
  simp [writeCommand, h]

/-- What an accepted command byte can do: open a collection window, or execute a command without parameters. -/
theorem acceptCommand_cases (val : Byte) (s : State) :
    (arity (normalisedOpcode val) ≠ 0 ∧ acceptCommand val s = accept val s) ∨
    (arity (normalisedOpcode val) = 0 ∧ normalisedOpcode val = 0x2C ∧
      acceptCommand val s = readDriveStatus (accept val s)) ∨
    (arity (normalisedOpcode val) = 0 ∧ normalisedOpcode val ≠ 0x2C ∧
      acceptCommand val s = unknownCommand (accept val s)) := by
  have hreq : (accept val s).paramreq = arity (normalisedOpcode val) := rfl
  have hcmd : (accept val s).command = normalisedOpcode val := rfl
  by_cases h : arity (normalisedOpcode val) = 0
  · by_cases h2 : normalisedOpcode val = 0x2C
    · exact .inr (.inl ⟨h, h2, by rw [acceptCommand, if_pos (hreq.trans h), if_pos (hcmd.trans h2)]⟩)
    · exact .inr (.inr ⟨h, h2, by rw [acceptCommand, if_pos (hreq.trans h), if_neg (hcmd ▸ h2)]⟩)
  · exact .inl ⟨h, by rw [acceptCommand, if_neg (hreq ▸ h)]⟩

/-- An accepted command byte of a command with parameters opens its collection window. -/
theorem writeCommand_opens (sel1 sel0 : Bool) (opc : Opcode) (c : Byte) (s : State) (hb : busy s = false)
    (hc : normalisedOpcode (commandByte sel1 sel0 opc) = c) (h0 : arity c ≠ 0) :
    writeCommand (commandByte sel1 sel0 opc) s =
      { accepted c sel1 s.params 0 s with
        drvout := if c < 0x2C then drvoutSelected s.drvout sel1 sel0 else s.drvout
        paramreq := arity c } := by
  subst hc
  rw [writeCommand_of_idle _ _ hb]
  rcases acceptCommand_cases (commandByte sel1 sel0 opc) s with ⟨_, e⟩ | ⟨e, _⟩ | ⟨e, _⟩
  · rw [e, accept_eq, selectBits_commandByte, driveOf_commandByte]; rfl
  · exact absurd e h0
  · exact absurd e h0

/-- An accepted command byte of an unknown command takes the unknown-command pattern at once. -/
theorem writeCommand_unknown (sel1 sel0 : Bool) (opc : Opcode) (c : Byte) (s : State) (hb : busy s = false)
    (hc : normalisedOpcode (commandByte sel1 sel0 opc) = c) (h0 : arity c = 0) (hs : c ≠ 0x2C) :
    writeCommand (commandByte sel1 sel0 opc) s =
      { accepted c sel1 s.params 0 s with
        drvout := if c < 0x2C then drvoutSelected s.drvout sel1 sel0 else s.drvout
        status := 0x18
        result := 0x18
        timer := 0 } := by
  subst hc
  rw [writeCommand_of_idle _ _ hb]
  rcases acceptCommand_cases (commandByte sel1 sel0 opc) s with ⟨e, _⟩ | ⟨_, e, _⟩ | ⟨_, _, e⟩
  · exact absurd h0 e
  · exact absurd e hs
  · rw [e, accept_eq, selectBits_commandByte, driveOf_commandByte, h0]; rfl

/-- What `Execute()` can do: the rule of one of the listed commands, or the unknown-command pattern. -/
theorem execute_cases (s : State) :
    (s.command = 0x35 ∧ execute s = specify s) ∨ (s.command = 0x3D ∧ execute s = readSpecial s) ∨
    (s.command = 0x3A ∧ execute s = writeSpecial s) ∨ (s.command = 0x29 ∧ execute s = seekStart s) ∨
    (s.command ∈ ([0x0B, 0x13, 0x1F, 0x1B] : List Byte) ∧ execute s = sectorStart s) ∨
    (s.command = 0x23 ∧ execute s = formatStart s) ∨
    (s.command ∉ ([0x35, 0x3D, 0x3A, 0x29, 0x0B, 0x13, 0x1F, 0x1B, 0x23] : List Byte) ∧
      execute s = unknownCommand s) := by
  by_cases h1 : s.command = 0x35; · simp [execute, h1]
  by_cases h2 : s.command = 0x3D; · simp [execute, h2]
  by_cases h3 : s.command = 0x3A; · simp [execute, h3]
  by_cases h4 : s.command = 0x29; · simp [execute, h4]
  by_cases h5 : s.command = 0x0B; · simp [execute, h5]
  by_cases h6 : s.command = 0x13; · simp [execute, h6]
  by_cases h7 : s.command = 0x1F; · simp [execute, h7]
  by_cases h8 : s.command = 0x1B; · simp [execute, h8]
  by_cases h9 : s.command = 0x23; · simp [execute, h9]
  refine .inr (.inr (.inr (.inr (.inr (.inr ⟨by simp_all, ?_⟩)))))
  simp only [← BitVec.toNat_inj] at h1 h2 h3 h4 h5 h6 h7 h8 h9
  unfold execute
  split <;> simp_all

/-- What Read special register can do (R164). -/
theorem readSpecial_cases (s : State) :
    (∃ v, readSpecial s = { s with result := v, status := 0x10 }) ∨ readSpecial s = unknownCommand s := by
  unfold readSpecial
  split
  · exact .inl ⟨_, rfl⟩
  split
  · exact .inl ⟨_, rfl⟩
  split
  · exact .inl ⟨_, rfl⟩
  · exact .inr rfl

/-- What Write special register can do (R165). -/
theorem writeSpecial_cases (s : State) :
    (∃ d : Drive, writeSpecial s = { s with curtrack := s.curtrack.set d s.params[1].toNat, status := 0x00 }) ∨
    writeSpecial s = { s with drvout := s.params[1], status := 0x00 } ∨
    writeSpecial s = { s with status := 0x00 } ∨ writeSpecial s = unknownCommand s := by
  unfold writeSpecial
  split
  · exact .inl ⟨0, rfl⟩
  split
  · exact .inl ⟨1, rfl⟩
  split
  · exact .inr (.inl rfl)
  split
  · exact .inr (.inr (.inl rfl))
  · exact .inr (.inr (.inr rfl))

/-- A property that acceptance establishes and every port-1 write keeps holds after a whole command. -/
theorem issueCommand_induct (P : State → Prop) (hkeep : ∀ v s, P s → P (collectParameter v s)) (val : Byte)
    (ps : List Byte) (s : State) (h : P (writeCommand val s)) : P (issueCommand val ps s) := by
  unfold issueCommand
  generalize writeCommand val s = u at h
  induction ps generalizing u with
  | nil => exact h
  | cons p ps ih => exact ih _ (hkeep p u h)

/-- What a port-1 write can do: store or drop the byte, and then perhaps execute. -/
theorem collectParameter_cases (val : Byte) (s : State) :
    ((storeParam val s).paramnum = (storeParam val s).paramreq ∧
      collectParameter val s = execute (storeParam val s)) ∨
    ((storeParam val s).paramnum ≠ (storeParam val s).paramreq ∧ collectParameter val s = storeParam val s) := by
  by_cases h : (storeParam val s).paramnum = (storeParam val s).paramreq
  · exact .inl ⟨h, if_pos h⟩
  · exact .inr ⟨h, if_neg h⟩

/-- A port-1 write with a slot left stores its byte, and executes the command if this was its last parameter. -/
theorem collectParameter_of_lt (val : Byte) (s : State) (h : s.paramnum < 5) :
    collectParameter val s =
      if s.paramnum + 1 = s.paramreq then
        execute { s with params := s.params.set s.paramnum val h, paramnum := s.paramnum + 1 }
      else { s with params := s.params.set s.paramnum val h, paramnum := s.paramnum + 1 } := by
  rw [collectParameter, storeParam_of_lt _ _ h]

/-- What the timer callback can do. -/
theorem timerCallback_cases (s : State) :
    (s.command = 0x0B ∧ timerCallback s = writeSectorArm { s with timer := 0 }) ∨
    (s.command = 0x13 ∧ timerCallback s = readSectorArm { s with timer := 0 }) ∨
    (s.command = 0x1F ∧ timerCallback s = verifyArm { s with timer := 0 }) ∨
    (s.command = 0x1B ∧ timerCallback s = readIdArm { s with timer := 0 }) ∨
    (s.command = 0x23 ∧ timerCallback s = formatArm { s with timer := 0 }) ∨
    (s.command = 0x29 ∧ timerCallback s = seekDone { s with timer := 0 }) ∨
    (s.command ∉ ([0x0B, 0x13, 0x1F, 0x1B, 0x23, 0x29] : List Byte) ∧ timerCallback s = { s with timer := 0 }) := by
  by_cases h1 : s.command = 0x0B; · simp [timerCallback, h1]
  by_cases h2 : s.command = 0x13; · simp [timerCallback, h2]
  by_cases h3 : s.command = 0x1F; · simp [timerCallback, h3]
  by_cases h4 : s.command = 0x1B; · simp [timerCallback, h4]
  by_cases h5 : s.command = 0x23; · simp [timerCallback, h5]
  by_cases h6 : s.command = 0x29; · simp [timerCallback, h6]
  refine .inr (.inr (.inr (.inr (.inr (.inr ⟨by simp_all, ?_⟩)))))
  simp only [← BitVec.toNat_inj] at h1 h2 h3 h4 h5 h6
  simp only [timerCallback]
  split <;> simp_all

/-- What a sector command's arm can do (R192, R193, R195, R196). -/
theorem sectorArm_cases (request reload : State → State) (s : State) :
    (s.phase = .zero ∧ sectorArm request reload s = request (phaseZeroEntry s)) ∨
    (s.phase = .one ∧ s.sectorsleft - 1 = 0 ∧
      sectorArm request reload s = spindownNormal (terminal { s with sectorsleft := s.sectorsleft - 1 })) ∨
    (s.phase = .one ∧ s.sectorsleft - 1 ≠ 0 ∧
      sectorArm request reload s =
        request (reload { s with sectorsleft := s.sectorsleft - 1, cursector := s.cursector + 1 })) := by
  cases h : s.phase with
  | zero => exact .inl ⟨rfl, by simp [sectorArm, h]⟩
  | one =>
    by_cases h2 : s.sectorsleft - 1 = 0
    · exact .inr (.inl ⟨rfl, h2, by simp [sectorArm, h, h2]⟩)
    · exact .inr (.inr ⟨rfl, h2, by simp [sectorArm, h, h2]⟩)

end Sys2Proof.Machine
end

