-- ==== Sys2Proof/Laws/Exec.lean ====
section
/-! SUPPORT. What one instruction and one step can do, said once: inversion lemmas for `exec`, `handle` and `step`, so that a
proof about every instruction or every event has one case for each operation and not one for each row. -/

namespace Sys2Proof.Machine

/-- The meaning of a command instruction is the issue of its bytes. -/
theorem exec_of_encode_command (i : Instr) (val : Byte) (ps : List Byte) (s : State)
    (h : encode i = .command (val :: ps)) : exec i s = .next (issueCommand val ps s) := by
  cases i <;> simp only [encode, HostAction.command.injEq, List.cons.injEq, reduceCtorEq] at h <;>
    (obtain ⟨rfl, rfl⟩ := h; rfl)

/-- A host command that decodes is executed as the issue of its bytes. -/
theorem exec_of_decode_command (val : Byte) (ps : List Byte) (i : Instr) (s : State)
    (h : decode (.command (val :: ps)) = .ok i) : exec i s = .next (issueCommand val ps s) := by
  simp only [decode, decodeCommand] at h
  split at h
  · next j hj =>
    have := CommandRow.encode_of_read _ _ (commandRow_encodes _) _ _ _ _ hj
    rw [commandByte_fields] at this
    cases h
    exact exec_of_encode_command _ _ _ _ this
  · cases h
  · cases h

/-- What a host read can do (R120 to R122, R128). -/
theorem exec_decodeRead (addr : Nat) (s : State) :
    exec (decodeRead addr) s = .next (returnByte s.status s) ∨
    exec (decodeRead addr) s = .next (acknowledgeResult s) ∨
    exec (decodeRead addr) s = .next (returnByte s.data (clearGroup dataGroup s)) ∨
    exec (decodeRead addr) s = .next (returnByte 0x00 s) := by
  unfold decodeRead
  split <;> simp [exec, execPortReadStatus, execPortReadResult, execPortReadData, execPortReadNop2, execPortReadNop3,
    execPortReadNop5, execPortReadNop6, execPortReadNop7]

/-- What a host write can do (R123 to R127). -/
theorem exec_decodeWrite (addr : Nat) (val : Byte) (s : State) :
    (portOf addr = 0 ∧ exec (decodeWrite addr val) s = .next (writeCommand val s)) ∨
    (portOf addr = 1 ∧ exec (decodeWrite addr val) s = .next (collectParameter val s)) ∨
    (portOf addr = 2 ∧ exec (decodeWrite addr val) s = .next (if val.getLsbD 0 then controllerReset s else s)) ∨
    (portOf addr = 4 ∧
      exec (decodeWrite addr val) s = .next (clearGroup dataGroup { s with data := val, written := true })) ∨
    (portOf addr ∉ ([0, 1, 2, 4] : List Port) ∧ exec (decodeWrite addr val) s = .next s) := by
  unfold decodeWrite
  split <;> next h => simp [h, exec, execPortWriteCommand, execPortWriteParameter, execPortWriteReset,
    execPortWriteData, execPortWriteNop3, execPortWriteNop5, execPortWriteNop6, execPortWriteNop7]

/-- What a host action can do, if it has a next state. -/
theorem handle_host_cases (a : HostAction) (s t : State) (h : handle (.host a) s = .next t) :
    (∃ addr, a = .read addr ∧ (t = returnByte s.status s ∨ t = acknowledgeResult s ∨
      t = returnByte s.data (clearGroup dataGroup s) ∨ t = returnByte 0x00 s)) ∨
    (∃ addr val, a = .write addr val ∧
      ((portOf addr = 0 ∧ t = writeCommand val s) ∨ (portOf addr = 1 ∧ t = collectParameter val s) ∨
      (portOf addr = 2 ∧ t = if val.getLsbD 0 then controllerReset s else s) ∨
      (portOf addr = 4 ∧ t = clearGroup dataGroup { s with data := val, written := true }) ∨
      (portOf addr ∉ ([0, 1, 2, 4] : List Port) ∧ t = s))) ∨
    (∃ val ps, a = .command (val :: ps) ∧ ps.length = arity (normalisedOpcode val) ∧ t = issueCommand val ps s) := by
  match a with
  | .read addr =>
    refine .inl ⟨addr, rfl, ?_⟩
    simp only [handle, decode] at h
    rcases exec_decodeRead addr s with e | e | e | e <;> (rw [e] at h; cases h; simp)
  | .write addr val =>
    refine .inr (.inl ⟨addr, val, rfl, ?_⟩)
    simp only [handle, decode] at h
    rcases exec_decodeWrite addr val s with ⟨p, e⟩ | ⟨p, e⟩ | ⟨p, e⟩ | ⟨p, e⟩ | ⟨p, e⟩ <;> (rw [e] at h; cases h; simp [p])
  | .command [] => simp [handle, decode, decodeCommand] at h
  | .command (val :: ps) =>
    refine .inr (.inr ⟨val, ps, rfl, ?_⟩)
    rcases decode_command val ps with ⟨hl, i, hi⟩ | ⟨_, hi⟩ | ⟨_, hi⟩ <;> simp only [handle, hi] at h
    · rw [exec_of_decode_command _ _ _ _ hi] at h
      cases h
      exact ⟨hl, rfl⟩
    · cases h
    · cases h

/-- What a step can do, if it has a next state: nothing when there is no event, else the rule of the next event. -/
theorem step_cases (s t : State) (h : step s = .next t) :
    (s.inbox = [] ∧ t = s) ∨
    ∃ e rest, s.inbox = e :: rest ∧ enabled e s = true ∧ handle e (s.take e rest) = .next t := by
  unfold step at h
  split at h
  · next hn => cases h; exact .inl ⟨hn, rfl⟩
  · next e rest hc =>
    split at h
    · next he => exact .inr ⟨e, rest, hc, he, h⟩
    · cases h

/-- A step with an enabled event at the head of the inbox is the rule of that event. -/
theorem step_of_enabled (s : State) (e : Event) (rest : List Event) (h : s.inbox = e :: rest) (he : enabled e s = true) :
    step s = handle e (s.take e rest) := by
  simp [step, h, he]

/-- No step leaves the state. -/
@[simp] theorem run_zero (s : State) : run 0 s = .next s := rfl

/-- One step of any machine, and then the others. -/
theorem core_run_succ (M : Host.Core) (n : Nat) (s t : M.State) (h : M.step s = .next t) :
    M.run (n + 1) s = M.run n t := by
  simp only [Host.Core.run, h]

/-- One step, and then the others. -/
theorem run_succ_of_next (n : Nat) (s t : State) (h : step s = .next t) : run (n + 1) s = run n t :=
  core_run_succ Sys2Proof.core n s t h

/-- A step with an enabled timer callback at the head of the inbox. -/
theorem step_timerCallback (s : State) (rest : List Event) (h : s.inbox = .timerCallback :: rest) (ht : 0 < s.timer) :
    step s = .next (timerCallback (s.take .timerCallback rest)) := by
  rw [step_of_enabled s _ rest h (by simpa [enabled] using ht)]; rfl

end Sys2Proof.Machine
end

