-- ==== Sys2Proof/Laws/Frames.lean ====
section
/-! SUPPORT. What the larger operations never change. -/

namespace Sys2Proof.Machine

/-- `Execute()` leaves the sequencing registers, the data register and its flag, the current drive, the deleted-data latch
and the events to come alone. -/
theorem execute_keeps (s : State) :
    (execute s).inbox = s.inbox ∧ (execute s).command = s.command ∧ (execute s).params = s.params ∧
    (execute s).paramnum = s.paramnum ∧ (execute s).paramreq = s.paramreq ∧ (execute s).data = s.data ∧
    (execute s).written = s.written ∧ (execute s).curdrive = s.curdrive ∧
    (execute s).deletedLatch = s.deletedLatch := by
  rcases execute_cases s with ⟨_, e⟩ | ⟨_, e⟩ | ⟨_, e⟩ | ⟨_, e⟩ | ⟨_, e⟩ | ⟨_, e⟩ | ⟨_, e⟩ <;> rw [e]
  · simp [specify_eq]
  · rcases readSpecial_cases s with ⟨v, r⟩ | r <;> simp [r, unknownCommand]
  · rcases writeSpecial_cases s with ⟨d, r⟩ | r | r | r <;> simp [r, unknownCommand]
  · simp [seekStart_eq]
  · simp [sectorStart_eq]
  · simp [formatStart_eq]
  · simp [unknownCommand]

/-- Storing a parameter byte changes the parameter slots and their count only. -/
theorem storeParam_keeps (val : Byte) (s : State) :
    ∃ ps n, storeParam val s = { s with params := ps, paramnum := n } := by
  by_cases h : s.paramnum < 5
  · exact ⟨_, _, storeParam_of_lt val s h⟩
  · exact ⟨s.params, s.paramnum, storeParam_of_ge val s (Nat.not_lt.mp h)⟩

/-- A port-1 write leaves these registers and the events to come alone. -/
theorem collectParameter_keeps (val : Byte) (s : State) :
    (collectParameter val s).inbox = s.inbox ∧ (collectParameter val s).command = s.command ∧
    (collectParameter val s).paramreq = s.paramreq ∧ (collectParameter val s).data = s.data ∧
    (collectParameter val s).written = s.written ∧ (collectParameter val s).curdrive = s.curdrive ∧
    (collectParameter val s).deletedLatch = s.deletedLatch := by
  obtain ⟨ps, n, hs⟩ := storeParam_keeps val s
  rcases collectParameter_cases val s with ⟨_, e⟩ | ⟨_, e⟩ <;> rw [e]
  · obtain ⟨h1, h2, _, _, h5, h6, h7, h8, h9⟩ := execute_keeps (storeParam val s)
    rw [h1, h2, h5, h6, h7, h8, h9, hs]
    exact ⟨rfl, rfl, rfl, rfl, rfl, rfl, rfl⟩
  · rw [hs]
    exact ⟨rfl, rfl, rfl, rfl, rfl, rfl, rfl⟩

/-- A port-0 write leaves these registers and the events to come alone, accepted or not. -/
theorem writeCommand_keeps (val : Byte) (s : State) :
    (writeCommand val s).inbox = s.inbox ∧ (writeCommand val s).params = s.params ∧
    (writeCommand val s).data = s.data ∧ (writeCommand val s).written = s.written ∧
    (writeCommand val s).curtrack = s.curtrack ∧ (writeCommand val s).cursector = s.cursector ∧
    (writeCommand val s).sectorsleft = s.sectorsleft ∧ (writeCommand val s).bytesleft = s.bytesleft ∧
    (writeCommand val s).phase = s.phase ∧ (writeCommand val s).unloadRevs = s.unloadRevs ∧
    (writeCommand val s).stepTime = s.stepTime ∧ (writeCommand val s).settleTime = s.settleTime ∧
    (writeCommand val s).loadTime = s.loadTime ∧ (writeCommand val s).motoron = s.motoron ∧
    (writeCommand val s).spindown = s.spindown := by
  cases hb : busy s with
  | true => simp [writeCommand_of_busy _ _ hb]
  | false =>
    rw [writeCommand_of_idle _ _ hb]
    rcases acceptCommand_cases val s with ⟨_, e⟩ | ⟨_, _, e⟩ | ⟨_, _, e⟩ <;>
      simp [e, accept_eq, readDriveStatus, unknownCommand]

end Sys2Proof.Machine
end

