-- ==== Sys2Proof/Laws/PerInstr.lean ====
section
/-! SUPPORT. The statements made for each instruction, one lemma per constructor of `Instr`. -/

/-- What the host does to issue an instruction is one port access, or a command of the length its opcode byte announces: the
byte and as many parameters as the arity table gives (R92, R93). -/
def Sys2Proof.Laws.EncodedLength.Statement (i : Sys2Proof.Instr) : Prop :=
  match Sys2Proof.encode i with
  | .command bytes => ∃ val ps, bytes = val :: ps ∧ bytes.length = Sys2Proof.commandLength val
  | .read _ => True
  | .write _ _ => True

namespace Sys2Proof.Laws.EncodedLength

/-- A command is as long as its opcode announces, whatever its select bits. -/
theorem command_statement (sel1 sel0 : Bool) (opc : Opcode) (ps : List Byte)
    (h : ps.length = (commandRow opc).size) :
    ∃ val qs, commandByte sel1 sel0 opc :: ps = val :: qs ∧
      (commandByte sel1 sel0 opc :: ps).length = commandLength val := by
  refine ⟨_, _, rfl, ?_⟩
  rw [commandLength, ← commandRow_size, opcodeField_commandByte, List.length_cons, h, Nat.add_comm]

theorem unknown00 (sel1 sel0 : Bool) : Statement (.unknown00 sel1 sel0) := command_statement sel1 sel0 _ _ rfl
theorem unknown01 (sel1 sel0 : Bool) : Statement (.unknown01 sel1 sel0) := command_statement sel1 sel0 _ _ rfl
theorem unknown02 (sel1 sel0 : Bool) : Statement (.unknown02 sel1 sel0) := command_statement sel1 sel0 _ _ rfl
theorem unknown03 (sel1 sel0 : Bool) : Statement (.unknown03 sel1 sel0) := command_statement sel1 sel0 _ _ rfl
theorem unknown04 (sel1 sel0 : Bool) : Statement (.unknown04 sel1 sel0) := command_statement sel1 sel0 _ _ rfl
theorem unknown05 (sel1 sel0 : Bool) : Statement (.unknown05 sel1 sel0) := command_statement sel1 sel0 _ _ rfl
theorem unknown06 (sel1 sel0 : Bool) : Statement (.unknown06 sel1 sel0) := command_statement sel1 sel0 _ _ rfl
theorem unknown07 (sel1 sel0 : Bool) : Statement (.unknown07 sel1 sel0) := command_statement sel1 sel0 _ _ rfl
theorem unknown08 (sel1 sel0 : Bool) : Statement (.unknown08 sel1 sel0) := command_statement sel1 sel0 _ _ rfl
theorem unknown09 (sel1 sel0 : Bool) : Statement (.unknown09 sel1 sel0) := command_statement sel1 sel0 _ _ rfl
theorem unknown0A (sel1 sel0 : Bool) : Statement (.unknown0A sel1 sel0) := command_statement sel1 sel0 _ _ rfl
theorem wrSector (sel1 sel0 : Bool) (track sector sizeCount : Byte) : Statement (.wrSector sel1 sel0 track sector sizeCount) :=
  command_statement sel1 sel0 _ _ rfl
theorem unknown0C (sel1 sel0 : Bool) : Statement (.unknown0C sel1 sel0) := command_statement sel1 sel0 _ _ rfl
theorem unknown0D (sel1 sel0 : Bool) : Statement (.unknown0D sel1 sel0) := command_statement sel1 sel0 _ _ rfl
theorem unknown0E (sel1 sel0 : Bool) : Statement (.unknown0E sel1 sel0) := command_statement sel1 sel0 _ _ rfl
theorem unknown0F (sel1 sel0 : Bool) : Statement (.unknown0F sel1 sel0) := command_statement sel1 sel0 _ _ rfl
theorem unknown10 (sel1 sel0 : Bool) : Statement (.unknown10 sel1 sel0) := command_statement sel1 sel0 _ _ rfl
theorem unknown11 (sel1 sel0 : Bool) : Statement (.unknown11 sel1 sel0) := command_statement sel1 sel0 _ _ rfl
theorem unknown12 (sel1 sel0 : Bool) : Statement (.unknown12 sel1 sel0) := command_statement sel1 sel0 _ _ rfl
theorem rdSector (sel1 sel0 : Bool) (track sector sizeCount : Byte) : Statement (.rdSector sel1 sel0 track sector sizeCount) :=
  command_statement sel1 sel0 _ _ rfl
theorem unknown14 (sel1 sel0 : Bool) : Statement (.unknown14 sel1 sel0) := command_statement sel1 sel0 _ _ rfl
theorem unknown15 (sel1 sel0 : Bool) : Statement (.unknown15 sel1 sel0) := command_statement sel1 sel0 _ _ rfl
theorem unknown16 (sel1 sel0 : Bool) : Statement (.unknown16 sel1 sel0) := command_statement sel1 sel0 _ _ rfl
theorem rdSectorAlias (sel1 sel0 : Bool) (track sector sizeCount : Byte) : Statement (.rdSectorAlias sel1 sel0 track sector sizeCount) :=
  command_statement sel1 sel0 _ _ rfl
theorem unknown18 (sel1 sel0 : Bool) : Statement (.unknown18 sel1 sel0) := command_statement sel1 sel0 _ _ rfl
theorem unknown19 (sel1 sel0 : Bool) : Statement (.unknown19 sel1 sel0) := command_statement sel1 sel0 _ _ rfl
theorem unknown1A (sel1 sel0 : Bool) : Statement (.unknown1A sel1 sel0) := command_statement sel1 sel0 _ _ rfl
theorem rdId (sel1 sel0 : Bool) (track sector sizeCount : Byte) : Statement (.rdId sel1 sel0 track sector sizeCount) :=
  command_statement sel1 sel0 _ _ rfl
theorem unknown1C (sel1 sel0 : Bool) : Statement (.unknown1C sel1 sel0) := command_statement sel1 sel0 _ _ rfl
theorem unknown1D (sel1 sel0 : Bool) : Statement (.unknown1D sel1 sel0) := command_statement sel1 sel0 _ _ rfl
theorem unknown1E (sel1 sel0 : Bool) : Statement (.unknown1E sel1 sel0) := command_statement sel1 sel0 _ _ rfl
theorem verify (sel1 sel0 : Bool) (track sector sizeCount : Byte) : Statement (.verify sel1 sel0 track sector sizeCount) :=
  command_statement sel1 sel0 _ _ rfl
theorem unknown20 (sel1 sel0 : Bool) : Statement (.unknown20 sel1 sel0) := command_statement sel1 sel0 _ _ rfl
theorem unknown21 (sel1 sel0 : Bool) : Statement (.unknown21 sel1 sel0) := command_statement sel1 sel0 _ _ rfl
theorem unknown22 (sel1 sel0 : Bool) : Statement (.unknown22 sel1 sel0) := command_statement sel1 sel0 _ _ rfl
theorem format (sel1 sel0 : Bool) (track p1 p2 p3 p4 : Byte) : Statement (.format sel1 sel0 track p1 p2 p3 p4) :=
  command_statement sel1 sel0 _ _ rfl
theorem unknown24 (sel1 sel0 : Bool) : Statement (.unknown24 sel1 sel0) := command_statement sel1 sel0 _ _ rfl
theorem unknown25 (sel1 sel0 : Bool) : Statement (.unknown25 sel1 sel0) := command_statement sel1 sel0 _ _ rfl
theorem unknown26 (sel1 sel0 : Bool) : Statement (.unknown26 sel1 sel0) := command_statement sel1 sel0 _ _ rfl
theorem unknown27 (sel1 sel0 : Bool) : Statement (.unknown27 sel1 sel0) := command_statement sel1 sel0 _ _ rfl
theorem unknown28 (sel1 sel0 : Bool) : Statement (.unknown28 sel1 sel0) := command_statement sel1 sel0 _ _ rfl
theorem seek (sel1 sel0 : Bool) (track : Byte) : Statement (.seek sel1 sel0 track) :=
  command_statement sel1 sel0 _ _ rfl
theorem unknown2A (sel1 sel0 : Bool) : Statement (.unknown2A sel1 sel0) := command_statement sel1 sel0 _ _ rfl
theorem unknown2B (sel1 sel0 : Bool) : Statement (.unknown2B sel1 sel0) := command_statement sel1 sel0 _ _ rfl
theorem rdDrvStatus (sel1 sel0 : Bool) : Statement (.rdDrvStatus sel1 sel0) := command_statement sel1 sel0 _ _ rfl
theorem unknown2D (sel1 sel0 : Bool) : Statement (.unknown2D sel1 sel0) := command_statement sel1 sel0 _ _ rfl
theorem unknown2E (sel1 sel0 : Bool) : Statement (.unknown2E sel1 sel0) := command_statement sel1 sel0 _ _ rfl
theorem unknown2F (sel1 sel0 : Bool) : Statement (.unknown2F sel1 sel0) := command_statement sel1 sel0 _ _ rfl
theorem unknown30 (sel1 sel0 : Bool) : Statement (.unknown30 sel1 sel0) := command_statement sel1 sel0 _ _ rfl
theorem unknown31 (sel1 sel0 : Bool) : Statement (.unknown31 sel1 sel0) := command_statement sel1 sel0 _ _ rfl
theorem unknown32 (sel1 sel0 : Bool) : Statement (.unknown32 sel1 sel0) := command_statement sel1 sel0 _ _ rfl
theorem unknown33 (sel1 sel0 : Bool) : Statement (.unknown33 sel1 sel0) := command_statement sel1 sel0 _ _ rfl
theorem unknown34 (sel1 sel0 : Bool) : Statement (.unknown34 sel1 sel0) := command_statement sel1 sel0 _ _ rfl
theorem specify (sel1 sel0 : Bool) (key step settle unloadLoad : Byte) : Statement (.specify sel1 sel0 key step settle unloadLoad) :=
  command_statement sel1 sel0 _ _ rfl
theorem unknown36 (sel1 sel0 : Bool) : Statement (.unknown36 sel1 sel0) := command_statement sel1 sel0 _ _ rfl
theorem unknown37 (sel1 sel0 : Bool) : Statement (.unknown37 sel1 sel0) := command_statement sel1 sel0 _ _ rfl
theorem unknown38 (sel1 sel0 : Bool) : Statement (.unknown38 sel1 sel0) := command_statement sel1 sel0 _ _ rfl
theorem unknown39 (sel1 sel0 : Bool) : Statement (.unknown39 sel1 sel0) := command_statement sel1 sel0 _ _ rfl
theorem wrSpecial (sel1 sel0 : Bool) (index value : Byte) : Statement (.wrSpecial sel1 sel0 index value) :=
  command_statement sel1 sel0 _ _ rfl
theorem unknown3B (sel1 sel0 : Bool) : Statement (.unknown3B sel1 sel0) := command_statement sel1 sel0 _ _ rfl
theorem unknown3C (sel1 sel0 : Bool) : Statement (.unknown3C sel1 sel0) := command_statement sel1 sel0 _ _ rfl
theorem rdSpecial (sel1 sel0 : Bool) (index : Byte) : Statement (.rdSpecial sel1 sel0 index) :=
  command_statement sel1 sel0 _ _ rfl
theorem unknown3E (sel1 sel0 : Bool) : Statement (.unknown3E sel1 sel0) := command_statement sel1 sel0 _ _ rfl
theorem unknown3F (sel1 sel0 : Bool) : Statement (.unknown3F sel1 sel0) := command_statement sel1 sel0 _ _ rfl
theorem portReadStatus (addr : Nat) : Statement (.portReadStatus addr) := trivial
theorem portReadResult (addr : Nat) : Statement (.portReadResult addr) := trivial
theorem portReadNop2 (addr : Nat) : Statement (.portReadNop2 addr) := trivial
theorem portReadNop3 (addr : Nat) : Statement (.portReadNop3 addr) := trivial
theorem portReadData (addr : Nat) : Statement (.portReadData addr) := trivial
theorem portReadNop5 (addr : Nat) : Statement (.portReadNop5 addr) := trivial
theorem portReadNop6 (addr : Nat) : Statement (.portReadNop6 addr) := trivial
theorem portReadNop7 (addr : Nat) : Statement (.portReadNop7 addr) := trivial
theorem portWriteCommand (addr : Nat) (val : Byte) : Statement (.portWriteCommand addr val) := trivial
theorem portWriteParameter (addr : Nat) (val : Byte) : Statement (.portWriteParameter addr val) := trivial
theorem portWriteReset (addr : Nat) (val : Byte) : Statement (.portWriteReset addr val) := trivial
theorem portWriteNop3 (addr : Nat) (val : Byte) : Statement (.portWriteNop3 addr val) := trivial
theorem portWriteData (addr : Nat) (val : Byte) : Statement (.portWriteData addr val) := trivial
theorem portWriteNop5 (addr : Nat) (val : Byte) : Statement (.portWriteNop5 addr val) := trivial
theorem portWriteNop6 (addr : Nat) (val : Byte) : Statement (.portWriteNop6 addr val) := trivial
theorem portWriteNop7 (addr : Nat) (val : Byte) : Statement (.portWriteNop7 addr val) := trivial

end Sys2Proof.Laws.EncodedLength
end

