-- ==== Sys2Proof/Laws/Trace.lean ====
section
/-! SUPPORT. The trace only grows: no operation and no event takes a line away that was written before (R108). -/

namespace Sys2Proof.Machine

@[simp] theorem nothingYet_iff (s : State) : nothingYet s = true ↔ s.trace = [] := List.isEmpty_iff

/-- What an event that is not enabled is (R72): a power-on after anything else, or a request of the scheduler's that nothing
made. -/
theorem not_enabled_cases (e : Event) (s : State) : enabled e s = false ↔
    (e = .powerOn ∧ s.trace ≠ []) ∨ (e = .timerCallback ∧ s.timer = 0) ∨ (e = .motorOff ∧ s.spindown = none) := by
  cases e <;> simp [enabled, nothingYet]

/-- The trace of an earlier state is the beginning of the trace of a later one. -/
def TraceExtends (s t : State) : Prop := s.trace <+: t.trace

theorem TraceExtends.of_eq {s t : State} (h : t.trace = s.trace) : TraceExtends s t := ⟨[], by simp [h]⟩

theorem TraceExtends.of_append {s t : State} (ls : List Line) (h : t.trace = s.trace ++ ls) : TraceExtends s t :=
  ⟨ls, h.symm⟩

theorem TraceExtends.trans {s t u : State} (h : TraceExtends s t) (k : TraceExtends t u) : TraceExtends s u :=
  List.IsPrefix.trans h k

theorem execute_traceExtends (s : State) : TraceExtends s (execute s) := by
  rcases execute_cases s with ⟨_, e⟩ | ⟨_, e⟩ | ⟨_, e⟩ | ⟨_, e⟩ | ⟨_, e⟩ | ⟨_, e⟩ | ⟨_, e⟩ <;> rw [e]
  · exact .of_eq (by rw [specify_eq])
  · rcases readSpecial_cases s with ⟨v, r⟩ | r <;> rw [r] <;> exact .of_eq rfl
  · rcases writeSpecial_cases s with ⟨d, r⟩ | r | r | r <;> rw [r] <;> exact .of_eq rfl
  · exact .of_append _ (by rw [seekStart_eq])
  · exact .of_append _ (by rw [sectorStart_eq])
  · exact .of_append _ (by rw [formatStart_eq])
  · exact .of_eq rfl

theorem collectParameter_traceExtends (val : Byte) (s : State) : TraceExtends s (collectParameter val s) := by
  obtain ⟨ps, n, hs⟩ := storeParam_keeps val s
  have hst : TraceExtends s (storeParam val s) := .of_eq (by rw [hs])
  rcases collectParameter_cases val s with ⟨_, e⟩ | ⟨_, e⟩ <;> rw [e]
  · exact hst.trans (execute_traceExtends _)
  · exact hst

theorem writeCommand_traceExtends (val : Byte) (s : State) : TraceExtends s (writeCommand val s) := by
  cases hb : busy s with
  | true => exact .of_eq (by rw [writeCommand_of_busy _ _ hb])
  | false =>
    rw [writeCommand_of_idle _ _ hb]
    rcases acceptCommand_cases val s with ⟨_, e⟩ | ⟨_, _, e⟩ | ⟨_, _, e⟩ <;> rw [e]
    · exact .of_append _ (by rw [accept_eq])
    · exact .of_append _ (by rw [accept_eq]; rfl)
    · exact .of_append _ (by rw [accept_eq]; rfl)

theorem issueCommand_traceExtends (val : Byte) (ps : List Byte) (s : State) : TraceExtends s (issueCommand val ps s) :=
  issueCommand_induct (TraceExtends s) (fun v _ h => h.trans (collectParameter_traceExtends v _)) val ps s
    (writeCommand_traceExtends val s)

theorem sectorArm_traceExtends (request reload : State → State) (s : State)
    (hreq : ∀ u, TraceExtends u (request u)) (hrel : ∀ u, TraceExtends u (reload u)) :
    TraceExtends s (sectorArm request reload s) := by
  rcases sectorArm_cases request reload s with ⟨_, e⟩ | ⟨_, _, e⟩ | ⟨_, _, e⟩ <;> rw [e]
  · exact hreq (phaseZeroEntry s)
  · exact .of_eq rfl
  · have hs : TraceExtends s { s with sectorsleft := s.sectorsleft - 1, cursector := s.cursector + 1 } := .of_eq rfl
    exact hs.trans ((hrel _).trans (hreq _))

theorem timerCallback_traceExtends (s : State) : TraceExtends s (timerCallback s) := by
  have hw (u : State) : TraceExtends u (writeRequest u) := .of_append _ rfl
  have hr (u : State) : TraceExtends u (readRequest u) := .of_append _ rfl
  have ha (u : State) : TraceExtends u (addressRequest u) := .of_append _ rfl
  have h0 : TraceExtends s { s with timer := 0 } := .of_eq rfl
  rcases timerCallback_cases s with ⟨_, e⟩ | ⟨_, e⟩ | ⟨_, e⟩ | ⟨_, e⟩ | ⟨_, e⟩ | ⟨_, e⟩ | ⟨_, e⟩ <;> rw [e]
  · exact h0.trans (sectorArm_traceExtends _ _ _ hw fun _ => .of_eq rfl)
  · exact h0.trans (sectorArm_traceExtends _ _ _ hr fun _ => .of_eq rfl)
  · exact h0.trans (sectorArm_traceExtends _ _ _ hr fun _ => .of_eq rfl)
  · exact h0.trans (sectorArm_traceExtends _ _ _ ha fun _ => .of_eq rfl)
  · unfold formatArm
    split
    · exact .of_append _ rfl
    · exact .of_eq rfl
  · exact .of_eq (by rw [seekDone_eq])
  · exact h0

theorem spinDown_traceExtends (s : State) : TraceExtends s (spinDown s) := .of_append _ (by rw [spinDown_eq])

theorem errorOutcome_traceExtends (code : Byte) (s : State) : TraceExtends s (errorOutcome code s) := by
  by_cases h : s.command = 0xFF
  · exact .of_eq (by rw [errorOutcome_of_reset _ _ h])
  · exact .of_eq (by rw [errorOutcome_of_command _ _ h])

/-- The rule of an event only adds lines to the trace. -/
theorem handle_traceExtends (e : Event) (s t : State) (h : handle e s = .next t) : TraceExtends s t := by
  cases e with
  | host a =>
    rcases handle_host_cases a s t h with ⟨_, _, e | e | e | e⟩ |
      ⟨_, _, _, ⟨_, e⟩ | ⟨_, e⟩ | ⟨_, e⟩ | ⟨_, e⟩ | ⟨_, e⟩⟩ | ⟨_, _, _, _, e⟩ <;> subst e
    · exact .of_append _ rfl
    · exact .of_append _ rfl
    · exact .of_append _ rfl
    · exact .of_append _ rfl
    · exact writeCommand_traceExtends _ _
    · exact collectParameter_traceExtends _ _
    · split <;> exact .of_eq rfl
    · exact .of_eq rfl
    · exact .of_eq rfl
    · exact issueCommand_traceExtends _ _ _
  | powerOn => cases h; exact .of_eq rfl
  | timerCallback => cases h; exact timerCallback_traceExtends s
  | motorOff => cases h; exact spinDown_traceExtends { s with spindown := none }
  | putData b =>
    cases h
    unfold putData
    split <;> exact .of_eq rfl
  | getData isLast =>
    cases h
    unfold getData
    split
    · exact .of_append _ rfl
    split
    · exact .of_append _ rfl
    · cases isLast <;> exact .of_append _ rfl
  | success deleted =>
    cases h
    unfold success
    split <;> exact .of_eq rfl
  | notFound => cases h; exact errorOutcome_traceExtends _ s
  | headerCRC => cases h; exact errorOutcome_traceExtends _ s
  | dataCRC deleted => cases h; exact errorOutcome_traceExtends _ s
  | writeProtect => cases h; exact errorOutcome_traceExtends _ s

/-- A step that handles an event keeps the lines written before it and writes the event after them. -/
theorem step_traceExtends (s t : State) (e : Event) (rest : List Event) (hin : s.inbox = e :: rest)
    (h : step s = .next t) : (s.trace ++ [.event e]) <+: t.trace := by
  rcases step_cases s t h with ⟨h0, _⟩ | ⟨e', rest', hc, _, hh⟩
  · rw [h0] at hin; cases hin
  · rw [hin] at hc; cases hc
    exact handle_traceExtends e (s.take e rest) t hh

end Sys2Proof.Machine
end

