-- ==== Sys2Proof/Tests/Slice0.lean ====
section
/-! SUPPORT. Tests of the model: words of the spec's encoding, ill-formed terms, worked examples of 95_test_vectors.md (V1 to
V83), and for each statement with hypotheses a witness that meets them. -/

namespace Sys2Proof.Tests

open Sys2Proof.Machine

/-! ## Decoding: words written out from R90 to R95, R103 and R110 -/

theorem test_decode_unknown_00_to_07 :
    ([0x00, 0x01, 0x02, 0x03, 0x04, 0x05, 0x06, 0x07] : List Byte).map (fun b => decode (.command [b])) =
      [.ok (.unknown00 false false), .ok (.unknown01 false false), .ok (.unknown02 false false), .ok (.unknown03 false
        false), .ok (.unknown04 false false), .ok (.unknown05 false false), .ok (.unknown06 false false), .ok
        (.unknown07 false false)] := by decide

theorem test_decode_unknown_08_to_0F :
    ([0x08, 0x09, 0x0A, 0x0C, 0x0D, 0x0E, 0x0F] : List Byte).map (fun b => decode (.command [b])) =
      [.ok (.unknown08 false false), .ok (.unknown09 false false), .ok (.unknown0A false false), .ok (.unknown0C false
        false), .ok (.unknown0D false false), .ok (.unknown0E false false), .ok (.unknown0F false false)] := by decide

theorem test_decode_unknown_10_to_17 :
    ([0x50, 0x51, 0x52, 0x54, 0x55, 0x56] : List Byte).map (fun b => decode (.command [b])) =
      [.ok (.unknown10 false true), .ok (.unknown11 false true), .ok (.unknown12 false true), .ok (.unknown14 false
        true), .ok (.unknown15 false true), .ok (.unknown16 false true)] := by decide

theorem test_decode_unknown_18_to_1F :
    ([0x58, 0x59, 0x5A, 0x5C, 0x5D, 0x5E] : List Byte).map (fun b => decode (.command [b])) =
      [.ok (.unknown18 false true), .ok (.unknown19 false true), .ok (.unknown1A false true), .ok (.unknown1C false
        true), .ok (.unknown1D false true), .ok (.unknown1E false true)] := by decide

theorem test_decode_unknown_20_to_27 :
    ([0xA0, 0xA1, 0xA2, 0xA4, 0xA5, 0xA6, 0xA7] : List Byte).map (fun b => decode (.command [b])) =
      [.ok (.unknown20 true false), .ok (.unknown21 true false), .ok (.unknown22 true false), .ok (.unknown24 true
        false), .ok (.unknown25 true false), .ok (.unknown26 true false), .ok (.unknown27 true false)] := by decide

theorem test_decode_unknown_28_to_2F :
    ([0xA8, 0xAA, 0xAB, 0xAD, 0xAE, 0xAF] : List Byte).map (fun b => decode (.command [b])) =
      [.ok (.unknown28 true false), .ok (.unknown2A true false), .ok (.unknown2B true false), .ok (.unknown2D true
        false), .ok (.unknown2E true false), .ok (.unknown2F true false)] := by decide

theorem test_decode_unknown_30_to_37 :
    ([0xF0, 0xF1, 0xF2, 0xF3, 0xF4, 0xF6, 0xF7] : List Byte).map (fun b => decode (.command [b])) =
      [.ok (.unknown30 true true), .ok (.unknown31 true true), .ok (.unknown32 true true), .ok (.unknown33 true true),
        .ok (.unknown34 true true), .ok (.unknown36 true true), .ok (.unknown37 true true)] := by decide

theorem test_decode_unknown_38_to_3F :
    ([0xF8, 0xF9, 0xFB, 0xFC, 0xFE, 0xFF] : List Byte).map (fun b => decode (.command [b])) =
      [.ok (.unknown38 true true), .ok (.unknown39 true true), .ok (.unknown3B true true), .ok (.unknown3C true true),
        .ok (.unknown3E true true), .ok (.unknown3F true true)] := by decide

/-- The eleven known opcodes (R92, R93, R94, R110): `0b01_001011` is `WR_SECTOR` on drive 0, and so on. -/
theorem test_decode_wrSector : decode (.command [0b01001011, 0x00, 0x03, 0x01]) = .ok (.wrSector false true 0x00 0x03 0x01) := by
  decide
theorem test_decode_rdSector : decode (.command [0b10010011, 0x05, 0x03, 0x61]) = .ok (.rdSector true false 0x05 0x03 0x61) := by
  decide
theorem test_decode_rdSectorAlias :
    decode (.command [0b01010111, 0x00, 0x01, 0x05]) = .ok (.rdSectorAlias false true 0x00 0x01 0x05) := by decide
theorem test_decode_rdId : decode (.command [0b01011011, 0x00, 0x00, 0x02]) = .ok (.rdId false true 0x00 0x00 0x02) := by decide
theorem test_decode_verify : decode (.command [0b01011111, 0x00, 0x00, 0x02]) = .ok (.verify false true 0x00 0x00 0x02) := by
  decide
theorem test_decode_format :
    decode (.command [0b01100011, 0x00, 0x15, 0x2A, 0x00, 0x10]) = .ok (.format false true 0x00 0x15 0x2A 0x00 0x10) := by
  decide
theorem test_decode_seek : decode (.command [0b10101001, 0x01]) = .ok (.seek true false 0x01) := by decide
theorem test_decode_rdDrvStatus : decode (.command [0b11101100]) = .ok (.rdDrvStatus true true) := by decide
theorem test_decode_specify :
    decode (.command [0b00110101, 0x0D, 0x08, 0x0A, 0x43]) = .ok (.specify false false 0x0D 0x08 0x0A 0x43) := by decide
theorem test_decode_wrSpecial : decode (.command [0b00111010, 0x23, 0x20]) = .ok (.wrSpecial false false 0x23 0x20) := by decide
theorem test_decode_rdSpecial : decode (.command [0b00111101, 0x12]) = .ok (.rdSpecial false false 0x12) := by decide

/-- Each address of the window and of its mirror is read and written at its own port (R60, R61, R103; V20). -/
theorem test_decode_reads :
    [0, 9, 2, 11, 0x0C, 5, 14, 7].map (fun a => decode (.read a)) =
      [.ok (.portReadStatus 0), .ok (.portReadResult 9), .ok (.portReadNop2 2), .ok (.portReadNop3 11),
        .ok (.portReadData 0x0C), .ok (.portReadNop5 5), .ok (.portReadNop6 14), .ok (.portReadNop7 7)] := by decide
theorem test_decode_writes :
    [8, 1, 0x0A, 3, 12, 5, 14, 7].map (fun a => decode (.write a 0x41)) =
      [.ok (.portWriteCommand 8 0x41), .ok (.portWriteParameter 1 0x41), .ok (.portWriteReset 0x0A 0x41),
        .ok (.portWriteNop3 3 0x41), .ok (.portWriteData 12 0x41), .ok (.portWriteNop5 5 0x41),
        .ok (.portWriteNop6 14 0x41), .ok (.portWriteNop7 7 0x41)] := by decide

/-- Bytes that are not one command are refused by name (R93). -/
theorem test_decode_rejects :
    decode (.command []) = .error .noBytes ∧
    decode (.command [0x69]) = .error (.missingParameters 0x29) ∧
    decode (.command [0x69, 0x05, 0x06]) = .error (.trailingBytes 0x29) := by decide

/-- Table words, low byte first: a Seek whose parameter word the table gives no bits, and one with it. -/
theorem test_decodeTableWord :
    decodeTableWord 8 0xE9 = some (.seek true true 0x00) ∧ decodeTableWord 16 0x0569 = some (.seek false true 0x05) := by decide

/-! ## Well-formedness: a port access at an address of another port is refused (R60) -/

theorem test_wellFormed_accepts :
    wellFormed (.portReadData 0x0C) = true ∧ wellFormed (.portWriteReset 0x0A 0x01) = true ∧
    wellFormed (.seek true false 0x05) = true := by decide
theorem test_illFormed_portReadStatus : wellFormed (.portReadStatus 9) = false := by decide
theorem test_illFormed_portReadResult : wellFormed (.portReadResult 10) = false := by decide
theorem test_illFormed_portReadNop2 : wellFormed (.portReadNop2 11) = false := by decide
theorem test_illFormed_portReadNop3 : wellFormed (.portReadNop3 12) = false := by decide
theorem test_illFormed_portReadData : wellFormed (.portReadData 13) = false := by decide
theorem test_illFormed_portReadNop5 : wellFormed (.portReadNop5 14) = false := by decide
theorem test_illFormed_portReadNop6 : wellFormed (.portReadNop6 15) = false := by decide
theorem test_illFormed_portReadNop7 : wellFormed (.portReadNop7 8) = false := by decide
theorem test_illFormed_portWriteCommand : wellFormed (.portWriteCommand 9 0x00) = false := by decide
theorem test_illFormed_portWriteParameter : wellFormed (.portWriteParameter 10 0x00) = false := by decide
theorem test_illFormed_portWriteReset : wellFormed (.portWriteReset 11 0x00) = false := by decide
theorem test_illFormed_portWriteNop3 : wellFormed (.portWriteNop3 12 0x00) = false := by decide
theorem test_illFormed_portWriteData : wellFormed (.portWriteData 13 0x00) = false := by decide
theorem test_illFormed_portWriteNop5 : wellFormed (.portWriteNop5 14 0x00) = false := by decide
theorem test_illFormed_portWriteNop6 : wellFormed (.portWriteNop6 15 0x00) = false := by decide
theorem test_illFormed_portWriteNop7 : wellFormed (.portWriteNop7 8 0x00) = false := by decide

/-! ## One step of each instruction (95_test_vectors.md) -/

/-- What an observation finds in the next state of an instruction. -/
def after {α : Type} (i : Instr) (s : State) (f : State → α) : Option α :=
  match exec i s with
  | .next t => some (f t)
  | .fault _ => none
  | .refused _ => none

/-- What an observation finds in the state after the rule of one event. -/
def afterEvent {α : Type} (e : Event) (s : State) (f : State → α) : Option α :=
  match step { s with inbox := [e] } with
  | .next t => some (f t)
  | .fault _ => none
  | .refused _ => none

/-- V10. -/
theorem test_portReadStatus :
    after (.portReadStatus 0) { State.reset with status := 0x8C } (fun t => (t.trace, t.status)) =
      some ([.returned 0x8C], 0x8C) := by decide
/-- V11, V12. -/
theorem test_portReadResult :
    after (.portReadResult 1) { State.reset with status := 0x18, result := 0x0E } (fun t => (t.trace, t.status)) =
      some ([.returned 0x0E], 0x00) := by decide
theorem test_portReadResult_keeps_data_request :
    after (.portReadResult 1) { State.reset with status := 0x8C } (fun t => t.status) = some 0x84 := by decide
/-- V13, V14. -/
theorem test_portReadData :
    after (.portReadData 4) { State.reset with status := 0x8C, data := 0xE5 } (fun t => (t.trace, t.status)) =
      some ([.returned 0xE5], 0x80) := by decide
theorem test_portReadData_keeps_result :
    after (.portReadData 4) { State.reset with status := 0x18, data := 0x33 } (fun t => t.status) = some 0x10 := by decide
/-- V18. -/
theorem test_portReadNops :
    [Instr.portReadNop2 2, .portReadNop3 3, .portReadNop5 5, .portReadNop6 6, .portReadNop7 7].map
      (fun i => after i { State.reset with status := 0x18 } (fun t => (t.trace, t.status))) =
      List.replicate 5 (some ([.returned 0x00], 0x18)) := by decide
/-- V16, V17. -/
theorem test_portWriteData :
    after (.portWriteData 4 0x41) { State.reset with status := 0x8C } (fun t => (t.data, t.written, t.status)) =
      some (0x41, true, 0x80) := by decide
/-- V19, V81. -/
theorem test_portWriteNops :
    [Instr.portWriteNop3 3 0xFF, .portWriteNop5 5 0xFF, .portWriteNop6 6 0xFF, .portWriteNop7 7 0xFF,
      .portWriteReset 2 0xFE].map
      (fun i => after i { State.reset with status := 0x8C, data := 0x33 } (fun t => (t.status, t.data))) =
      List.replicate 5 (some (0x8C, 0x33)) := by decide
/-- V79, V80. -/
theorem test_portWriteReset :
    after (.portWriteReset 2 0x03) { State.reset with stepTime := 16000, motoron := true, spindown := some 9, status := 0x80 }
      (fun t => (t.stepTime, t.motoron, t.spindown, t.status)) = some (0, true, some 9, 0x00) := by decide
/-- V22, V23. -/
theorem test_portWriteCommand_alias :
    after (.portWriteCommand 0 0xD7) State.reset (fun t => (t.command, t.drvout, t.curdrive, t.paramreq, t.status)) =
      some (0x13, 0xC0, 1, 3, 0x80) := by decide
/-- V2: a command write while busy. -/
theorem test_portWriteCommand_busy :
    after (.portWriteCommand 0 0xAC) { State.reset with status := 0x80, command := 0x29, drvout := 0x40 }
      (fun t => (t.command, t.drvout, t.curdrive, t.trace)) = some (0x29, 0x40, 0, []) := by decide
/-- V31, V32. -/
theorem test_portWriteParameter :
    after (.portWriteParameter 1 0xAA) State.reset (fun t => (t.params[0], t.paramnum, t.status)) = some (0xAA, 1, 0x00) := by
  decide
theorem test_portWriteParameter_dropped :
    after (.portWriteParameter 1 0x78) { State.reset with paramnum := 5, paramreq := 4, command := 0x35 }
      (fun t => (t.params[4], t.paramnum)) = some (0x00, 5) := by decide
/-- V25, V27: unknown opcodes below 0x2C copy the select bits. -/
theorem test_unknown_below :
    after (.unknown00 true false) State.reset (fun t => (t.command, t.drvout, t.curdrive, t.status, t.result)) =
      some (0x00, 0x80, 1, 0x18, 0x18) := by decide
theorem test_unknown_2B :
    after (.unknown2B false true) State.reset (fun t => (t.drvout, t.status)) = some (0x40, 0x18) := by decide
/-- V26, V28: unknown opcodes from 0x2C on do not. -/
theorem test_unknown_2D :
    after (.unknown2D false true) State.reset (fun t => (t.drvout, t.status)) = some (0x00, 0x18) := by decide
theorem test_unknown_3F :
    after (.unknown3F false false) { State.reset with drvout := 0x40 } (fun t => (t.command, t.drvout, t.status)) =
      some (0x3F, 0x40, 0x18) := by decide
/-- V24, with the open bits left symbolic. -/
theorem test_rdDrvStatus :
    after (.rdDrvStatus true false) { State.reset with drvout := 0x40, curtrack := #v[0, 5] }
      (fun t => (t.curdrive, t.drvout, t.status, t.result)) =
      some (1, 0x40, 0x10, Config.rdsBase ||| 0 ||| Config.rdsSel0 ||| 0) := by rfl
/-- V1, V39. -/
theorem test_specify :
    after (.specify false false 0x0D 0x08 0x0A 0x43) State.reset
      (fun t => (t.stepTime, t.settleTime, t.unloadRevs, t.loadTime, t.status)) = some (16000, 20000, 4, 12000, 0x00) := by
  decide
theorem test_specify_extremes :
    after (.specify false false 0x0D 0xFF 0x00 0xF0) State.reset
      (fun t => (t.stepTime, t.settleTime, t.unloadRevs, t.loadTime, t.status)) = some (510000, 0, 15, 0, 0x00) := by decide
/-- V40, V42: the index selects the register, here called by its own name since its number is open. -/
theorem test_rdSpecial_track0 :
    after (.rdSpecial false false Config.srTrack0) { State.reset with curtrack := #v[3, 9] } (fun t => (t.result, t.status)) =
      some (0x03, 0x10) := by
  simp [after, exec, execRdSpecial, issueCommand, writeCommand, busy, acceptCommand, accept, normalisedOpcode, commandByte,
    arity, collectParameter, storeParam, execute, readSpecial, State.reset, ready, emit, note, statusReady, statusBusy]
/-- V45, V44. -/
theorem test_wrSpecial_track0 :
    after (.wrSpecial false false Config.srTrack0 0x28) State.reset (fun t => (t.curtrack[0], t.status)) = some (40, 0x00) := by
  simp [after, exec, execWrSpecial, issueCommand, writeCommand, busy, acceptCommand, accept, normalisedOpcode, commandByte,
    arity, collectParameter, storeParam, execute, writeSpecial, State.reset, complete, setTrack, emit, note, statusIdle,
    statusBusy]
/-- V51, V50: the extreme distance, the order of the calls, and the seek to track 0. -/
theorem test_seek :
    after (.seek true false 0x01) { State.reset with curtrack := #v[0, 255] } (fun t => (t.drvout, t.curdrive, t.trace)) =
      some (0x80, 1, [.emit (.setDriveActive 1 true), .emit (.seekRelative 1 (-254) 0 0), .emit (.setDriveActive 1 true),
        .emit .audioSpinUp, .emit (.driveSpinUp 0), .emit (.driveSpinUp 1)]) := by decide
theorem test_seek_zero :
    after (.seek false true 0x00) { State.reset with motoron := true } (fun t => (t.trace, t.curtrack[0], t.timer)) =
      some ([.emit (.setDriveActive 0 true), .emit (.seekToZero 0 0 0)], 0, Config.seekDelay 0 0 0) := by rfl
/-- V54: spin-up first, then the implied seek; the size code. -/
theorem test_rdSector :
    after (.rdSector true false 0x05 0x03 0x61) { State.reset with curtrack := #v[0, 2], motoron := true }
      (fun t => (t.sectorsleft, t.cursector, t.bytesleft, t.trace)) =
      some (1, 3, 1024, [.emit (.setDriveActive 1 true), .emit (.seekRelative 1 3 0 0)]) := by decide
/-- V3, under the alias opcode (V22). -/
theorem test_rdSectorAlias :
    after (.rdSectorAlias false true 0x00 0x01 0x05) State.reset
      (fun t => (t.command, t.sectorsleft, t.cursector, t.bytesleft, t.timer)) = some (0x13, 5, 1, 128, Config.tShort) := by rfl
/-- V55: `bytesleft` is not written. -/
theorem test_wrSector :
    after (.wrSector false true 0x00 0x03 0x01) State.reset
      (fun t => (t.command, t.sectorsleft, t.cursector, t.bytesleft, t.motoron)) = some (0x0B, 1, 3, 0, true) := by decide
/-- V57, V58. -/
theorem test_verify :
    after (.verify false true 0x00 0x00 0x02) State.reset (fun t => (t.command, t.sectorsleft, t.bytesleft, t.status)) =
      some (0x1F, 2, 0, 0x80) := by decide
theorem test_rdId :
    after (.rdId false true 0x00 0x00 0x02) State.reset (fun t => (t.command, t.sectorsleft, t.cursector, t.status)) =
      some (0x1B, 2, 0, 0x80) := by decide
/-- V64, V66. -/
theorem test_format :
    after (.format false true 0x02 0x15 0x2A 0x00 0x10) State.reset (fun t => (t.params, t.paramnum, t.timer)) =
      some (#v[0x02, 0x15, 0x2A, 0x00, 0x10], 5, Config.seekDelay 2 0 0) := by rfl

/-! ## One event of each kind -/

/-- V57: a Verify takes no data. -/
theorem test_putData_verify :
    afterEvent (.putData 0x55) { State.reset with command := 0x1F, status := 0x80 } (fun t => (t.data, t.status)) =
      some (0x00, 0x80) := by decide
/-- V55. -/
theorem test_getData :
    afterEvent (.getData true) { State.reset with command := 0x0B, status := 0x80, written := true, data := 0xA2 }
      (fun t => (t.written, t.status, t.trace)) =
      some (false, 0x80, [.event (.getData true), .gave 0xA2]) := by decide
/-- V75: the deleted-data flag of the notification itself. -/
theorem test_dataCRC :
    afterEvent (.dataCRC true) { State.reset with command := 0x13, status := 0x80 } (fun t => (t.result, t.status)) =
      some (0x2E, 0x18) := by decide
/-- V67. -/
theorem test_motorOff :
    afterEvent .motorOff { State.reset with motoron := true, drvout := 0x60, spindown := some 3 }
      (fun t => (t.spindown, t.motoron, t.drvout)) = some (none, false, 0x20) := by decide
/-- V61: a count of zero goes below zero. -/
theorem test_timerCallback_count_zero :
    afterEvent .timerCallback { State.reset with command := 0x13, phase := .one, timer := 1, status := 0x80 }
      (fun t => (t.sectorsleft, t.cursector, t.status)) = some (-1, 1, 0x80) := by decide
/-- R72: power-on comes before anything else. -/
theorem test_powerOn_first :
    afterEvent .powerOn { State.reset with result := 0x18, motoron := true } (fun t => (t.result, t.motoron, t.command)) =
      some (0x00, false, 0xFF) := by decide
/-- R72: and not a second time. -/
theorem test_powerOn_once :
    enabled .powerOn { State.reset with trace := [.event .powerOn] } = false := by decide
/-- A table word placed as the next action runs as the first instruction after reset. -/
theorem test_withFetchWord :
    step (State.reset.withFetchWord 8 0x29) =
      exec (.seek false false 0x00) { State.reset with trace := [.event (.host (.command [0x29, 0x00]))] } := by rfl

/-! ## Witnesses: a state and operands that meet all the hypotheses of a statement, one for each clause -/

/-- A block whose command is running: a callback is due. -/
def running (command : Byte) (phase : Phase) : State :=
  { State.reset with command := command, status := 0x80, phase := phase, timer := 1, sectorsleft := 1, motoron := true }

/-- A block with events to come. -/
def withEvents (es : List Event) (s : State) : State := { s with inbox := es }

/-- The idle block, which every statement about an accepted command starts from. -/
theorem witness_idle : busy State.reset = false ∧ State.reset.curtrack[0] ≤ 255 ∧ State.reset.curtrack[1] ≤ 255 := by decide

theorem witness_CommandWriteDispatches :
    busy (running 0x29 .zero) = true ∧
    (busy State.reset = false ∧ arity (normalisedOpcode 0x57) ≠ 0) ∧
    (busy State.reset = false ∧ (0xEC : Byte) &&& 0x3F = 0x2C) ∧
    (busy State.reset = false ∧ arity (normalisedOpcode 0x6B) = 0 ∧ (0x6B : Byte) &&& 0x3F ≠ 0x2C) := by decide

theorem witness_ParameterWriteCollects :
    { State.reset with paramnum := 4, paramreq := 5 }.paramnum < 5 ∧ 5 ≤ { State.reset with paramnum := 5 }.paramnum := by decide

theorem witness_SixthParameterRerunsFormat :
    let s : State := { State.reset with command := 0x23, paramnum := 5, paramreq := 5 }
    s.command = 0x23 ∧ s.paramnum = 5 ∧ s.paramreq = 5 := by decide

theorem witness_CommandIsItsPortWrites :
    encode (.rdSector false true 0x00 0x01 0x05) = .command (0x53 :: [0x00, 0x01, 0x05]) := by decide

theorem witness_SectorCommandsStart :
    ((.verify true false 0x05 0x03 0x61 : Instr), (0x1F : Byte)) ∈
      ([(.wrSector true false 0x05 0x03 0x61, 0x0B), (.rdSector true false 0x05 0x03 0x61, 0x13),
        (.rdSectorAlias true false 0x05 0x03 0x61, 0x13), (.rdId true false 0x05 0x03 0x61, 0x1B),
        (.verify true false 0x05 0x03 0x61, 0x1F)] : List (Instr × Byte)) := by decide

theorem witness_UnknownOpcodesTakeTheErrorPattern :
    busy State.reset = false ∧ (.unknown00 true false, 0x00) ∈ unknownOpcodes true false ∧
    (.unknown3F true false, 0x3F) ∈ unknownOpcodes true false := by decide

theorem witness_ResetRegisterUsesBitZero : (0x03 : Byte).getLsbD 0 = true ∧ (0xFE : Byte).getLsbD 0 = false := by decide

theorem witness_SpinDownClearsTheSelectBits : (running 0x29 .zero).motoron = true ∧ State.reset.motoron = false := by decide

/-- A Seek to track 0 and a Seek to another track. -/
theorem witness_SeekIssuesItsRequest : busy State.reset = false ∧ (0x00 : Byte) = 0 ∧ (0x01 : Byte) ≠ 0 := by decide

theorem witness_SeekCompletes :
    let s := withEvents [.timerCallback] (running 0x29 .zero)
    s.inbox = .timerCallback :: [] ∧ 0 < s.timer ∧ s.command = 0x29 := by decide

/-- The five arms with phases: the first callback, the last one, and (with two sectors left) one between them. -/
theorem witness_phase_callbacks :
    ∀ c ∈ ([0x0B, 0x13, 0x1F, 0x1B, 0x23] : List Byte),
      let s (p : Phase) (n : Int) : State := withEvents [.timerCallback] { running c p with sectorsleft := n }
      ((s .zero 1).inbox = .timerCallback :: [] ∧ 0 < (s .zero 1).timer ∧ (s .zero 1).command = c ∧ (s .zero 1).phase = .zero) ∧
      ((s .one 1).inbox = .timerCallback :: [] ∧ 0 < (s .one 1).timer ∧ (s .one 1).command = c ∧ (s .one 1).phase = .one ∧
        (s .one 1).sectorsleft - 1 = 0) ∧
      ((s .one 2).inbox = .timerCallback :: [] ∧ 0 < (s .one 2).timer ∧ (s .one 2).command = c ∧ (s .one 2).phase = .one ∧
        (s .one 2).sectorsleft - 1 ≠ 0) := by decide

theorem witness_CallbackOfOtherCommandsIsIdle :
    let s := withEvents [.timerCallback] (running 0x2C .zero)
    s.inbox = .timerCallback :: [] ∧ 0 < s.timer ∧ s.command ∉ ([0x0B, 0x13, 0x1F, 0x1B, 0x23, 0x29] : List Byte) := by decide

theorem witness_MotorOffStopsTheMotor :
    let s := withEvents [.motorOff] { running 0x29 .zero with spindown := some 9 }
    s.inbox = .motorOff :: [] ∧ s.spindown = some 9 := by decide

theorem witness_PutDataOffersTheByte :
    (withEvents [.putData 0x55] (running 0x13 .one)).inbox = .putData 0x55 :: [] := by decide

/-- The two ways to the not-written signal, and a deposited byte. -/
theorem witness_GetDataConsumesTheByte :
    let s (c : Byte) (w : Bool) : State := withEvents [.getData false] { running c .one with written := w }
    ((s 0xFF true).inbox = .getData false :: [] ∧ ((s 0xFF true).command = 0xFF ∨ (s 0xFF true).written = false)) ∧
    ((s 0x0B false).inbox = .getData false :: [] ∧ ((s 0x0B false).command = 0xFF ∨ (s 0x0B false).written = false)) ∧
    ((s 0x0B true).inbox = .getData false :: [] ∧ (s 0x0B true).command ≠ 0xFF ∧ (s 0x0B true).written = true) := by decide

theorem witness_SuccessArmsTheTimer :
    (withEvents [.success true] (running 0x13 .one)).inbox = .success true :: [] := by decide

theorem witness_ErrorOutcomesEndTheCommand :
    ∀ e ∈ [Event.notFound, .headerCRC, .dataCRC true, .writeProtect],
      (running 0x13 .one).command ≠ 0xFF ∧ (withEvents [e] (running 0x13 .one)).command ≠ 0xFF ∧
      (withEvents [e] (running 0x13 .one)).inbox = e :: [] := by decide

theorem witness_LateEventsAreIgnored :
    ∀ e ∈ [Event.putData 0x55, .success true, .notFound, .headerCRC, .dataCRC true, .writeProtect, .getData true],
      (withEvents [e] State.reset).command = 0xFF ∧ (withEvents [e] State.reset).inbox = e :: [] := by decide

theorem witness_PowerOnGivesTheResetValues :
    let s := withEvents [.powerOn] (running 0x13 .one)
    s.inbox = .powerOn :: [] ∧ s.trace = [] := by decide

/-- A power-on, and a host's read. -/
theorem witness_PowerOnComesOnceAndFirst :
    ∀ e ∈ [Event.powerOn, .host (.read 0)],
      (withEvents [e] State.reset).inbox = e :: [] ∧ ∃ t, step (withEvents [e] State.reset) = .next t := by
  intro e he
  simp only [List.mem_cons, List.not_mem_nil, or_false] at he
  rcases he with rfl | rfl <;> exact ⟨rfl, _, rfl⟩

theorem witness_DecodeOfEncode :
    wellFormed (.portReadData 12) = true ∧ wellFormed (.format true true 0x02 0x15 0x2A 0x00 0x10) = true := by decide

theorem witness_EncodeOfDecode : decode (.command [0x69, 0x05]) = .ok (.seek false true 0x05) := by decide

theorem witness_PortWindow : 12 % 8 = 4 % 8 := by decide

theorem witness_StepRunsTheDecodedInstruction :
    (withEvents [.host (.command [0x69, 0x05]), .timerCallback] State.reset).inbox =
      .host (.command [0x69, 0x05]) :: [.timerCallback] ∧
    decode (.command [0x69, 0x05]) = .ok (.seek false true 0x05) := by decide

/-- A legal state with a Read sector in flight, and a step from it. -/
theorem witness_StepKeepsLegal :
    let s := withEvents [.host (.read 0)] { running 0x13 .one with paramnum := 3, paramreq := 3, bytesleft := 128 }
    Legal s ∧ ∃ t, step s = .next t := by
  refine ⟨⟨.inr (by decide), by decide, by decide, by decide, by decide, by decide, .inr (.inr ⟨0, by decide, rfl⟩), by decide,
    ⟨0, by decide, rfl⟩, ⟨0, by decide, rfl⟩, ⟨0, by decide, rfl⟩⟩, _, rfl⟩

/-- A Read sector with its request outstanding, the collaborator's success, and the step that takes it. -/
theorem witness_StepKeepsInFlight :
    let s := withEvents [.success false]
      { running 0x13 .one with
        paramnum := 3, paramreq := 3, timer := 0, trace := [.emit (.readSector 0 1 0x00 .zero ⟨0⟩)] }
    InFlight s ∧ (∀ e rest, s.inbox = e :: rest → Admissible e s) ∧ ∃ t, step s = .next t := by
  refine ⟨by constructor <;> decide, ?_, _, rfl⟩
  intro e rest h
  cases h
  exact .inl (by decide)

/-- An unknown opcode raises the line. -/
theorem witness_InterruptRisesByThreePatterns :
    let s := withEvents [.host (.command [0x80])] State.reset
    irq s = false ∧ ∃ t, step s = .next t ∧ irq t = true := by
  refine ⟨by decide, _, rfl, by decide⟩

/-- V1 changes the timing registers. -/
theorem witness_TimingRegistersChangeOnlyBySpecify :
    let e : Event := .host (.command [0x35, 0x0D, 0x08, 0x0A, 0x43])
    let s := withEvents [e] State.reset
    s.inbox = e :: [] ∧ isReset e = false ∧ ∃ t, step s = .next t ∧ t.stepTime ≠ s.stepTime := by
  refine ⟨rfl, by decide, _, rfl, by decide⟩

/-- The completion of a Seek to track 7 changes a track register. -/
theorem witness_TracksChangeOnlyOnCompletion :
    let s := withEvents [.timerCallback] { running 0x29 .zero with params := #v[0x07, 0, 0, 0, 0] }
    s.inbox = .timerCallback :: [] ∧ isReset .timerCallback = false ∧ ∃ t, step s = .next t ∧ t.curtrack ≠ s.curtrack := by
  refine ⟨rfl, by decide, _, rfl, by decide⟩

/-- The motor goes off. -/
theorem witness_MotorStopsOnlyByMotorOff :
    let s := withEvents [.motorOff] { running 0x29 .zero with spindown := some 0 }
    s.inbox = .motorOff :: [] ∧ Event.motorOff ≠ .powerOn ∧ s.motoron = true ∧
      ∃ t, step s = .next t ∧ t.motoron = false := by
  refine ⟨rfl, by decide, rfl, _, rfl, by decide⟩

/-- A reset through port 2 leaves the motor on. -/
theorem witness_MotorStopsOnlyByMotorOff_reset :
    let e : Event := .host (.write 2 0x01)
    let s := withEvents [e] (running 0x29 .zero)
    s.inbox = e :: [] ∧ e ≠ .powerOn ∧ isReset e = true ∧ ∃ t, step s = .next t := by
  refine ⟨rfl, by decide, by decide, _, rfl⟩

/-- A byte is deposited. -/
theorem witness_DepositFlagHasTwoWriters :
    let s := withEvents [.host (.write 4 0x41)] State.reset
    s.written = false ∧ ∃ t, step s = .next t ∧ t.written = true := by
  refine ⟨rfl, _, rfl, by decide⟩

/-- A deposited byte is taken. -/
theorem witness_DepositFlagHasTwoWriters_taken :
    let s := withEvents [.getData false] { running 0x0B .one with written := true }
    s.written = true ∧ ∃ t, step s = .next t ∧ t.written = false := by
  refine ⟨rfl, _, rfl, by decide⟩

/-- A Write sector of two sectors about to begin, with an error-free collaborator. -/
theorem witness_SectorOperationCompletes :
    let s := withEvents (.timerCallback :: ((List.replicate 2 [Event.success false, .timerCallback]).flatten ++ []))
      { running 0x0B .zero with sectorsleft := 2 }
    s.command = 0x0B ∧ s.phase = .zero ∧ 0 < s.timer ∧ s.deletedLatch = false ∧ 1 ≤ 2 ∧ s.sectorsleft = ((2 : Nat) : Int) ∧
    s.inbox = .timerCallback :: ((List.replicate 2 [Event.success false, .timerCallback]).flatten ++ []) := by decide

/-- A Read sector of count 0 after its first request, with three successes to come. -/
theorem witness_CountZeroNeverCompletes :
    let s := withEvents ((List.replicate 3 [Event.success false, .timerCallback]).flatten ++ [])
      { running 0x13 .one with sectorsleft := 0, timer := 0 }
    s.command ∈ ([0x0B, 0x13, 0x1F, 0x1B] : List Byte) ∧ s.phase = .one ∧ busy s = true ∧ s.sectorsleft ≤ 0 ∧
    s.inbox = (List.replicate 3 [Event.success false, .timerCallback]).flatten ++ [] := by decide

end Sys2Proof.Tests
end

/-! PROOFS of the encoding family (30_encoding.md): decoding takes back encoding, by the three forms of what the host does,
and what an accepted command byte leaves in `command` and `drvout`. -/

namespace Sys2Proof

/-! ## What an instruction is encoded as, and how that is read back -/

/-- An instruction encoded as command bytes is what the row at its opcode reads from them, with no byte left over. -/
theorem read_of_encode_command (i : Instr) (bytes : List Byte) (h : encode i = .command bytes) :
    ∃ sel1 sel0 opc ps, bytes = commandByte sel1 sel0 opc :: ps ∧
      (commandRow opc).read sel1 sel0 opc ps = .ok (i, []) := by
  cases i <;> cases h <;> exact ⟨_, _, _, _, rfl, rfl⟩

/-- The decoder takes from command bytes what the row at their opcode reads, if that is all of them (R93). -/
theorem decode_command_of_read (sel1 sel0 : Bool) (opc : Opcode) (ps : List Byte) (i : Instr)
    (h : (commandRow opc).read sel1 sel0 opc ps = .ok (i, [])) :
    decode (.command (commandByte sel1 sel0 opc :: ps)) = .ok i := by
  simp [decode, decodeCommand, h]

/-- A well-formed instruction encoded as a host read is the one its port decodes to (R61, R103). -/
theorem decodeRead_of_encode (i : Instr) (addr : Nat) (h : encode i = .read addr) (hw : wellFormed i = true) :
    decodeRead addr = i := by
  cases i <;> cases h <;> rw [decodeRead, eq_of_beq hw]

/-- A well-formed instruction encoded as a host write is the one its port decodes to (R61, R103). -/
theorem decodeWrite_of_encode (i : Instr) (addr : Nat) (val : Byte) (h : encode i = .write addr val)
    (hw : wellFormed i = true) : decodeWrite addr val = i := by
  cases i <;> cases h <;> rw [decodeWrite, eq_of_beq hw]

/-- Settles O42, by the form of the host action the instruction is encoded as. -/
theorem decodeOfEncode : Obligations.DecodeOfEncode := by
  intro i hw
  cases h : encode i with
  | read addr => rw [decode, decodeRead_of_encode i addr h hw]
  | write addr val => rw [decode, decodeWrite_of_encode i addr val h hw]
  | command bytes =>
    obtain ⟨sel1, sel0, opc, ps, rfl, hread⟩ := read_of_encode_command i bytes h
    exact decode_command_of_read sel1 sel0 opc ps i hread

end Sys2Proof

namespace Sys2Proof.Machine

/-! ## What an accepted command byte leaves in the registers -/

/-- A host write to port 0 of an idle block accepts the byte (R123). -/
theorem exec_portWriteCommand_of_idle (addr : Nat) (val : Byte) (s : State) (h : busy s = false) :
    exec (.portWriteCommand addr val) s = .next (acceptCommand val s) :=
  congrArg Host.Outcome.next (writeCommand_of_idle val s h)

/-- Executing at once a command without parameters does not touch the opcode just stored (R91, R141). -/
@[simp] theorem acceptCommand_command (val : Byte) (s : State) :
    (acceptCommand val s).command = normalisedOpcode val := by
  rcases acceptCommand_cases val s with ⟨_, e⟩ | ⟨_, _, e⟩ | ⟨_, _, e⟩ <;> rw [e] <;> rfl

/-- Executing at once a command without parameters does not touch `drvout`: the acceptance alone sets it (R107, R141). -/
@[simp] theorem acceptCommand_drvout (val : Byte) (s : State) :
    (acceptCommand val s).drvout =
      if normalisedOpcode val < 0x2C then selectBits s.drvout val else s.drvout := by
  rcases acceptCommand_cases val s with ⟨_, e⟩ | ⟨_, _, e⟩ | ⟨_, _, e⟩ <;> rw [e] <;> rfl

/-- Settles O8: acceptance tests the opcode it stores. -/
theorem selectBitsFollowTheThreshold : Obligations.SelectBitsFollowTheThreshold := by
  intro s addr val hidle
  refine ⟨acceptCommand val s, exec_portWriteCommand_of_idle addr val s hidle, ?_⟩
  rw [acceptCommand_command, acceptCommand_drvout]
  rfl

/-- Settles O7: the stored opcode is the normalised one. -/
theorem opcodeIsNormalised : Obligations.OpcodeIsNormalised := by
  intro s addr val hidle
  exact ⟨acceptCommand val s, exec_portWriteCommand_of_idle addr val s hidle, acceptCommand_command val s⟩

end Sys2Proof.Machine

/-! PROOFS of the register-interface family (40_register_interface.md): what a host read returns and clears, which writes
have no effect, and what the writes to ports 0, 2 and 4 do. -/

namespace Sys2Proof.Machine

/-! ## The port accesses, each as an operation on the state -/

/-- A host read of port 0 hands back `status` and clears nothing (R120). -/
@[simp] theorem exec_portReadStatus (addr : Nat) (s : State) :
    exec (.portReadStatus addr) s = .next (returnByte s.status s) := rfl

/-- A host read of port 1 is the return from a completion (R121, R287). -/
@[simp] theorem exec_portReadResult (addr : Nat) (s : State) :
    exec (.portReadResult addr) s = .next (acknowledgeResult s) := rfl

/-- A host read of port 4 hands back `data` and clears its bit group (R122). -/
@[simp] theorem exec_portReadData (addr : Nat) (s : State) :
    exec (.portReadData addr) s = .next (returnByte s.data (clearGroup dataGroup s)) := rfl

/-- A host write to port 0 is a write of the command register (R123). -/
@[simp] theorem exec_portWriteCommand (addr : Nat) (val : Byte) (s : State) :
    exec (.portWriteCommand addr val) s = .next (writeCommand val s) := rfl

/-- A host write to port 2 looks at bit 0 of the byte alone (R125). -/
@[simp] theorem exec_portWriteReset (addr : Nat) (val : Byte) (s : State) :
    exec (.portWriteReset addr val) s = .next (if val.getLsbD 0 then controllerReset s else s) := rfl

/-- A host write to port 4 deposits the byte and clears the bit group of `data` (R126). -/
@[simp] theorem exec_portWriteData (addr : Nat) (val : Byte) (s : State) :
    exec (.portWriteData addr val) s = .next (clearGroup dataGroup { s with data := val, written := true }) := rfl

/-- Handing a byte back to the host adds a line to the trace and changes nothing else (R108). -/
theorem returnByte_eq (v : Byte) (s : State) : returnByte v s = { s with trace := s.trace ++ [.returned v] } := rfl

/-- The return from a completion clears `ST_RESULT` and `ST_IRQ` and hands back `result` (R121, R129). -/
theorem acknowledgeResult_eq (s : State) :
    acknowledgeResult s = { s with status := s.status &&& ~~~0x18, trace := s.trace ++ [.returned s.result] } := rfl

/-- Clearing the bit group of `data` clears `ST_IRQ` and `ST_DATA` and changes nothing else (R129). -/
theorem clearGroup_dataGroup (s : State) : clearGroup dataGroup s = { s with status := s.status &&& ~~~0x0C } := rfl

/-! ## The obligations -/

/-- Settles O1, port by port. -/
theorem portReadsReturnTheirRegister : Obligations.PortReadsReturnTheirRegister := by
  intro s addr
  refine ⟨?status, ?result, ?data, ?others⟩
  case status => rw [exec_portReadStatus, returnByte_eq]
  case result => rw [exec_portReadResult, acknowledgeResult_eq]
  case data => rw [exec_portReadData, returnByte_eq, clearGroup_dataGroup]
  case others =>
    intro i hi
    simp only [List.mem_cons, List.not_mem_nil, or_false] at hi
    rcases hi with rfl | rfl | rfl | rfl | rfl <;> exact congrArg Host.Outcome.next (returnByte_eq 0x00 s)

/-- Settles O2, port by port: the meaning of each of the four writes is the state as it was. -/
theorem portWritesWithoutEffect : Obligations.PortWritesWithoutEffect := by
  intro s addr val i hi
  simp only [List.mem_cons, List.not_mem_nil, or_false] at hi
  rcases hi with rfl | rfl | rfl | rfl <;> rfl

/-- Settles O3: the byte is deposited, then the bit group of `data` is cleared. -/
theorem dataWriteDepositsTheByte : Obligations.DataWriteDepositsTheByte := by
  intro s addr val
  rw [exec_portWriteData, clearGroup_dataGroup]

/-- Settles O4, by the value of bit 0. -/
theorem resetRegisterUsesBitZero : Obligations.ResetRegisterUsesBitZero := by
  intro s addr val
  constructor
  · intro hset
    rw [exec_portWriteReset, if_pos hset]
  · intro hclear
    rw [exec_portWriteReset, if_neg (Bool.eq_false_iff.mp hclear)]

/-- Settles O6, by whether a command is in flight. -/
theorem commandRegisterIsIgnoredWhileBusy : Obligations.CommandRegisterIsIgnoredWhileBusy := by
  intro s addr val
  constructor
  · intro hbusy
    rw [exec_portWriteCommand, writeCommand_of_busy val s hbusy]
  · exact exec_portWriteCommand_of_idle addr val s

end Sys2Proof.Machine

/-! PROOFS of the collector and dispatch family (41_parameter_collector_and_dispatch.md): how many parameter bytes a
command takes. -/

namespace Sys2Proof.Machine

/-- The opcodes that take at least one parameter byte (R143). -/
def parameterOpcodes : List Byte := [0x35, 0x23, 0x13, 0x0B, 0x1B, 0x1F, 0x3A, 0x29, 0x3D]

/-- Outside `parameterOpcodes` the arity table answers with its "every other value" row, or with its row for 0x2C (R143). -/
theorem arity_of_not_mem_parameterOpcodes (c : Byte) (h : c ∉ parameterOpcodes) : arity c = 0 := by
  simp only [parameterOpcodes, List.mem_cons, List.not_mem_nil, or_false, not_or, ← BitVec.toNat_inj] at h
  unfold arity
  split <;> simp_all

/-- Settles O10, row by row of the table, then for every byte that has no row of its own. -/
theorem arityFollowsTheTable : Obligations.ArityFollowsTheTable := by
  intro c
  by_cases hrow : c ∈ parameterOpcodes
  · simp only [parameterOpcodes, List.mem_cons, List.not_mem_nil, or_false] at hrow
    rcases hrow with rfl | rfl | rfl | rfl | rfl | rfl | rfl | rfl | rfl <;> rfl
  · rw [arity_of_not_mem_parameterOpcodes c hrow]
    simp only [parameterOpcodes, List.mem_cons, List.not_mem_nil, or_false, not_or] at hrow
    simp only [hrow, or_self, if_false]

end Sys2Proof.Machine

/-! PROOFS of the invariant on the ranges of the registers (10_state.md), with what the calls of the scheduler and of the
collaborator do to the state, said once each. -/

namespace Sys2Proof.Machine

/-! ## The scheduler's and the collaborator's calls, each as one record -/

/-- `put_data` in the reset state or during a Verify (R252). -/
theorem putData_of_ignored (b : Byte) (s : State) (h : s.command = 0xFF ∨ s.command = 0x1F) : putData b s = s :=
  if_pos h

/-- `put_data` under any other command (R252). -/
theorem putData_of_taken (b : Byte) (s : State) (h : ¬(s.command = 0xFF ∨ s.command = 0x1F)) :
    putData b s = { s with data := b, status := 0x8C } := if_neg h

/-- `get_data` in the reset state or with nothing deposited answers the not-written signal (R253). -/
theorem getData_of_notWritten (isLast : Bool) (s : State) (h : s.command = 0xFF ∨ s.written = false) :
    getData isLast s = { s with trace := s.trace ++ [.notWritten] } := by
  by_cases hc : s.command = 0xFF
  · exact if_pos hc
  · exact (if_neg hc).trans (if_pos (h.resolve_left hc))

/-- `get_data` takes the deposited byte and, unless it was the last, asks for the next one (R253). -/
theorem getData_of_written (isLast : Bool) (s : State) (hc : s.command ≠ 0xFF) (hw : s.written = true) :
    getData isLast s =
      { s with
        written := false
        status := if isLast then s.status else 0x8C
        trace := s.trace ++ [.gave s.data] } := by
  rw [getData, if_neg hc, if_neg (by simp [hw])]
  cases isLast <;> rfl

/-- `Success` in the reset state (R78, R254). -/
theorem success_of_reset (deleted : Bool) (s : State) (h : s.command = 0xFF) : success deleted s = s := if_pos h

/-- `Success` outside the reset state arms the short delay and latches the mark (R254). -/
theorem success_of_command (deleted : Bool) (s : State) (h : s.command ≠ 0xFF) :
    success deleted s = { s with deletedLatch := s.deletedLatch || deleted, timer := Config.tShort } := by
  rw [success, if_neg h]
  cases deleted <;> simp

/-- The motor-off event disarms the spindown and spins down (R235, R231). -/
theorem motorOff_eq (s : State) :
    motorOff s =
      { s with
        spindown := none
        motoron := false
        drvout := if s.motoron then s.drvout &&& 0x3F else s.drvout
        trace := s.trace ++ if s.motoron then spinDownLines else [] } := spinDown_eq _

/-! ## The ranges of the registers (O50, O51) -/

/-- Settles O50. -/
theorem resetStateIsLegal : Obligations.ResetStateIsLegal where
  command_range := .inl rfl
  paramnum_le := by decide
  paramreq_eq := rfl
  status_mem := by decide
  curtrack_le := by decide
  sectorsleft_lt := by decide
  bytesleft_range := .inl rfl
  unloadRevs_le := by decide
  stepTime_range := ⟨0, by decide, rfl⟩
  settleTime_range := ⟨0, by decide, rfl⟩
  loadTime_range := ⟨0, by decide, rfl⟩

/-- A byte in a track register keeps both registers in their range (R30). -/
theorem curtrack_set_le (tracks : Vector Nat 2) (d : Drive) (b : Byte) (h : tracks[0] ≤ 255 ∧ tracks[1] ≤ 255) :
    (tracks.set d b.toNat)[0] ≤ 255 ∧ (tracks.set d b.toNat)[1] ≤ 255 := by
  have hb : b.toNat ≤ 255 := Nat.le_of_lt_succ b.isLt
  match d with
  | 0 => simp [hb, h.2]
  | 1 => simp [hb, h.1]

/-- A sector length is one of the eight of R33. -/
theorem sectorLength_range (b : Byte) : ∃ k < 8, sectorLength b = 128 * 2 ^ k :=
  ⟨b.toNat / 32, by have := b.isLt; omega, sectorLength_eq b⟩

/-- A sector count is five bits wide (R32). -/
theorem sectorCount_lt (b : Byte) : (sectorCount b : Int) < 32 := by
  rw [sectorCount_eq]
  omega

/-- What acceptance stores is a normalised opcode (R20, R91). -/
theorem normalisedOpcode_range (val : Byte) : normalisedOpcode val < 0x40 ∧ normalisedOpcode val ≠ 0x17 := by
  revert val; decide

/-- Clearing the group of `result` or of `data` leads from one value of `status` to another (R26, R129). -/
theorem statusValues_clear :
    ∀ v ∈ statusValues, v &&& ~~~resultGroup ∈ statusValues ∧ v &&& ~~~dataGroup ∈ statusValues := by
  decide

theorem statusIdle_mem : statusIdle ∈ statusValues := by decide
theorem statusReady_mem : statusReady ∈ statusValues := by decide
theorem statusTerminal_mem : statusTerminal ∈ statusValues := by decide
theorem statusBusy_mem : statusBusy ∈ statusValues := by decide
theorem statusDataReady_mem : statusDataReady ∈ statusValues := by decide

theorem Legal.unknownCommand {s : State} (h : Legal s) : Legal (unknownCommand s) :=
  { h with status_mem := statusTerminal_mem }

theorem Legal.specify {s : State} (h : Legal s) : Legal (specify s) := by
  by_cases hkey : s.params[0] = 0x0D
  · have hbyte (b : Byte) : b.toNat ≤ 255 := Nat.le_of_lt_succ b.isLt
    rw [specify_eq]
    simp only [if_pos hkey]
    exact { h with
      status_mem := statusIdle_mem
      stepTime_range := ⟨_, hbyte _, rfl⟩
      settleTime_range := ⟨_, hbyte _, rfl⟩
      unloadRevs_le := (Nat.div_le_iff_le_mul_add_pred (by decide)).mpr (hbyte _)
      loadTime_range := ⟨_, by omega, rfl⟩ }
  · rw [specify_eq]
    simp only [if_neg hkey]
    exact { h with status_mem := statusIdle_mem }

theorem Legal.readSpecial {s : State} (h : Legal s) : Legal (readSpecial s) := by
  rcases readSpecial_cases s with ⟨v, e⟩ | e <;> rw [e]
  · exact { h with status_mem := statusReady_mem }
  · exact h.unknownCommand

theorem Legal.writeSpecial {s : State} (h : Legal s) : Legal (writeSpecial s) := by
  rcases writeSpecial_cases s with ⟨d, e⟩ | e | e | e <;> rw [e]
  · exact { h with status_mem := statusIdle_mem, curtrack_le := curtrack_set_le _ d _ h.curtrack_le }
  · exact { h with status_mem := statusIdle_mem }
  · exact { h with status_mem := statusIdle_mem }
  · exact h.unknownCommand

theorem Legal.sectorStart {s : State} (h : Legal s) : Legal (sectorStart s) := by
  rw [sectorStart_eq]
  refine { h with sectorsleft_lt := sectorCount_lt _, bytesleft_range := ?_ }
  by_cases hrd : s.command = 0x13
  · simp only [if_pos hrd]
    exact .inr (.inr (sectorLength_range _))
  · simp only [if_neg hrd]
    exact h.bytesleft_range

theorem Legal.execute {s : State} (h : Legal s) : Legal (execute s) := by
  rcases execute_cases s with ⟨_, e⟩ | ⟨_, e⟩ | ⟨_, e⟩ | ⟨_, e⟩ | ⟨_, e⟩ | ⟨_, e⟩ | ⟨_, e⟩ <;> rw [e]
  · exact h.specify
  · exact h.readSpecial
  · exact h.writeSpecial
  · rw [seekStart_eq]; exact { h with }
  · exact h.sectorStart
  · rw [formatStart_eq]; exact { h with }
  · exact h.unknownCommand

theorem Legal.collectParameter {s : State} (h : Legal s) (val : Byte) : Legal (collectParameter val s) := by
  have hstore : Legal (storeParam val s) := by
    by_cases hroom : s.paramnum < 5
    · rw [storeParam_of_lt val s hroom]
      exact { h with paramnum_le := hroom }
    · rwa [storeParam_of_ge val s (Nat.not_lt.mp hroom)]
  rcases collectParameter_cases val s with ⟨_, e⟩ | ⟨_, e⟩ <;> rw [e]
  · exact hstore.execute
  · exact hstore

theorem Legal.writeCommand {s : State} (h : Legal s) (val : Byte) : Legal (writeCommand val s) := by
  have haccept : Legal (accept val s) := by
    rw [accept_eq]
    exact { h with
      command_range := .inr (normalisedOpcode_range val)
      paramnum_le := Nat.zero_le 5
      paramreq_eq := rfl
      status_mem := statusBusy_mem }
  cases hb : busy s with
  | true => rwa [writeCommand_of_busy val s hb]
  | false =>
    rw [writeCommand_of_idle val s hb]
    rcases acceptCommand_cases val s with ⟨_, e⟩ | ⟨_, _, e⟩ | ⟨_, _, e⟩ <;> rw [e]
    · exact haccept
    · exact { haccept with status_mem := statusReady_mem }
    · exact haccept.unknownCommand

theorem Legal.issueCommand {s : State} (h : Legal s) (val : Byte) (ps : List Byte) : Legal (issueCommand val ps s) :=
  issueCommand_induct Legal (fun v _ hu => hu.collectParameter v) val ps s (h.writeCommand val)

theorem Legal.powerOn (s : State) : Legal (powerOn s) := { resetStateIsLegal with }

theorem Legal.controllerReset (s : State) : Legal (controllerReset s) := { resetStateIsLegal with }

/-- A sector command's arm keeps the ranges if its request and its reload do. -/
theorem Legal.sectorArm {request reload : State → State} (hreq : ∀ u, Legal u → Legal (request u))
    (hrel : ∀ u, Legal u → Legal (reload u)) {s : State} (h : Legal s) : Legal (sectorArm request reload s) := by
  have hcount : s.sectorsleft - 1 < 32 := by have := h.sectorsleft_lt; omega
  rcases sectorArm_cases request reload s with ⟨_, e⟩ | ⟨_, _, e⟩ | ⟨_, _, e⟩ <;> rw [e]
  · exact hreq _ { h with curtrack_le := curtrack_set_le _ _ _ h.curtrack_le }
  · exact { h with status_mem := statusTerminal_mem, sectorsleft_lt := hcount }
  · exact hreq _ (hrel _ { h with sectorsleft_lt := hcount })

theorem Legal.formatArm {s : State} (h : Legal s) : Legal (formatArm s) := by
  unfold Machine.formatArm
  split
  · exact { h with status_mem := statusDataReady_mem, curtrack_le := curtrack_set_le _ _ _ h.curtrack_le }
  · exact { h with status_mem := statusTerminal_mem }

theorem Legal.timerCallback {s : State} (h : Legal s) : Legal (timerCallback s) := by
  have h0 : Legal { s with timer := 0 } := { h with }
  have hwrite (u : State) (hu : Legal u) : Legal (writeRequest u) := { hu with status_mem := statusDataReady_mem }
  have hread (u : State) (hu : Legal u) : Legal (readRequest u) := { hu with }
  have haddress (u : State) (hu : Legal u) : Legal (addressRequest u) := { hu with }
  have hlength (u : State) (hu : Legal u) : Legal { u with bytesleft := sectorLength u.params[2] } :=
    { hu with bytesleft_range := .inr (.inr (sectorLength_range _)) }
  have hfour (u : State) (hu : Legal u) : Legal { u with bytesleft := 4 } :=
    { hu with bytesleft_range := .inr (.inl rfl) }
  rcases timerCallback_cases s with ⟨_, e⟩ | ⟨_, e⟩ | ⟨_, e⟩ | ⟨_, e⟩ | ⟨_, e⟩ | ⟨_, e⟩ | ⟨_, e⟩ <;> rw [e]
  · exact h0.sectorArm hwrite fun _ hu => hu
  · exact h0.sectorArm hread hlength
  · exact h0.sectorArm hread fun _ hu => hu
  · exact h0.sectorArm haddress hfour
  · exact h0.formatArm
  · exact { h with status_mem := statusTerminal_mem, curtrack_le := curtrack_set_le _ _ _ h.curtrack_le }
  · exact h0

theorem Legal.putData {s : State} (h : Legal s) (b : Byte) : Legal (putData b s) := by
  by_cases hc : s.command = 0xFF ∨ s.command = 0x1F
  · rwa [putData_of_ignored b s hc]
  · rw [putData_of_taken b s hc]
    exact { h with status_mem := statusDataReady_mem }

theorem Legal.getData {s : State} (h : Legal s) (isLast : Bool) : Legal (getData isLast s) := by
  by_cases hn : s.command = 0xFF ∨ s.written = false
  · rw [getData_of_notWritten isLast s hn]
    exact { h with }
  · obtain ⟨hc, hw⟩ := not_or.mp hn
    rw [getData_of_written isLast s hc (Bool.eq_true_of_not_eq_false hw)]
    cases isLast
    · exact { h with status_mem := statusDataReady_mem }
    · exact { h with }

theorem Legal.success {s : State} (h : Legal s) (deleted : Bool) : Legal (success deleted s) := by
  by_cases hc : s.command = 0xFF
  · rwa [success_of_reset deleted s hc]
  · rw [success_of_command deleted s hc]
    exact { h with }

theorem Legal.errorOutcome {s : State} (h : Legal s) (code : Byte) : Legal (errorOutcome code s) := by
  by_cases hc : s.command = 0xFF
  · rwa [errorOutcome_of_reset code s hc]
  · rw [errorOutcome_of_command code s hc]
    exact { h with status_mem := statusTerminal_mem }

/-- The meaning of a host action keeps the ranges. -/
theorem Legal.handle_host {s t : State} (h : Legal s) (a : HostAction) (ht : handle (.host a) s = .next t) :
    Legal t := by
  have hclear := statusValues_clear _ h.status_mem
  rcases handle_host_cases a s t ht with ⟨_, _, e | e | e | e⟩ |
    ⟨_, val, _, ⟨_, e⟩ | ⟨_, e⟩ | ⟨_, e⟩ | ⟨_, e⟩ | ⟨_, e⟩⟩ | ⟨_, _, _, _, e⟩ <;> subst e
  · exact { h with }
  · exact { h with status_mem := hclear.1 }
  · exact { h with status_mem := hclear.2 }
  · exact { h with }
  · exact h.writeCommand _
  · exact h.collectParameter _
  · by_cases hreset : val.getLsbD 0 = true
    · rw [if_pos hreset]; exact Legal.controllerReset s
    · rwa [if_neg hreset]
  · exact { h with status_mem := hclear.2 }
  · exact h
  · exact h.issueCommand _ _

/-- The rule of every event keeps the ranges. -/
theorem Legal.handle {s t : State} (h : Legal s) (e : Event) (ht : handle e s = .next t) : Legal t := by
  cases e with
  | host a => exact h.handle_host a ht
  | powerOn => cases ht; exact Legal.powerOn s
  | timerCallback => cases ht; exact h.timerCallback
  | motorOff => cases ht; rw [motorOff_eq]; exact { h with }
  | putData b => cases ht; exact h.putData b
  | getData isLast => cases ht; exact h.getData isLast
  | success deleted => cases ht; exact h.success deleted
  | notFound => cases ht; exact h.errorOutcome _
  | headerCRC => cases ht; exact h.errorOutcome _
  | dataCRC deleted => cases ht; exact h.errorOutcome _
  | writeProtect => cases ht; exact h.errorOutcome _

/-- Settles O51: taking the event touches no register, and the rule of every event keeps the ranges. -/
theorem stepKeepsLegal : Obligations.StepKeepsLegal := by
  intro s t h ht
  rcases step_cases s t ht with ⟨_, rfl⟩ | ⟨e, rest, _, _, he⟩
  · exact h
  · have htake : Legal (s.take e rest) := { h with }
    exact htake.handle e he

end Sys2Proof.Machine

/-! PROOFS of the in-flight invariant (R43, R76, R77), with how the bytes of a whole command arrive. -/

namespace Sys2Proof.Machine

/-! ## The bytes of a whole command -/

/-- The parameter bytes stored one after another, without the execution that follows the last of them. -/
def storeParams (ps : List Byte) (s : State) : State := ps.foldl (fun u p => storeParam p u) s

/-- Storing bytes that fit into the slots changes the slots and their count only. -/
theorem storeParams_keeps (ps : List Byte) (s : State) (h : s.paramnum + ps.length ≤ 5) :
    ∃ qs, storeParams ps s = { s with params := qs, paramnum := s.paramnum + ps.length } := by
  induction ps generalizing s with
  | nil => exact ⟨s.params, rfl⟩
  | cons p ps ih =>
    rw [List.length_cons] at h
    have hroom : s.paramnum < 5 := by omega
    obtain ⟨qs, hqs⟩ := ih { s with params := s.params.set s.paramnum p hroom, paramnum := s.paramnum + 1 }
      (by simp only; omega)
    refine ⟨qs, ?_⟩
    rw [storeParams, List.foldl_cons, storeParam_of_lt p s hroom, ← storeParams, hqs, List.length_cons]
    simp only [Nat.add_assoc, Nat.add_comm 1]

/-- The bytes that fill a collection window exactly are stored, and the command executes after the last (R145). -/
theorem collect_of_complete (ps : List Byte) (s : State) (hne : ps ≠ []) (hlen : s.paramnum + ps.length = s.paramreq)
    (h5 : s.paramreq ≤ 5) : ps.foldl (fun u p => collectParameter p u) s = execute (storeParams ps s) := by
  induction ps generalizing s with
  | nil => exact absurd rfl hne
  | cons p ps ih =>
    rw [List.length_cons] at hlen
    have hroom : s.paramnum < 5 := by omega
    rw [List.foldl_cons, storeParams, List.foldl_cons, storeParam_of_lt p s hroom, collectParameter_of_lt p s hroom]
    cases ps with
    | nil => rw [if_pos (show s.paramnum + 1 = s.paramreq from hlen)]; rfl
    | cons q qs =>
      rw [List.length_cons] at hlen
      rw [if_neg (by omega)]
      exact ih _ (List.cons_ne_nil q qs) (by simp only [List.length_cons]; omega) h5

/-- An accepted command byte of a command with parameters is its acceptance alone (R142). -/
theorem acceptCommand_of_params (val : Byte) (s : State) (h0 : arity (normalisedOpcode val) ≠ 0) :
    acceptCommand val s = accept val s := by
  rcases acceptCommand_cases val s with ⟨_, e⟩ | ⟨e, _⟩ | ⟨e, _⟩
  · exact e
  · exact absurd e h0
  · exact absurd e h0

/-- Read drive status executes at its acceptance (R160). -/
theorem acceptCommand_of_driveStatus (val : Byte) (s : State) (hc : normalisedOpcode val = 0x2C) :
    acceptCommand val s = readDriveStatus (accept val s) := by
  rcases acceptCommand_cases val s with ⟨e, _⟩ | ⟨_, _, e⟩ | ⟨_, e, _⟩
  · rw [hc] at e; exact absurd rfl e
  · exact e
  · exact absurd hc e

/-- An unknown command executes at its acceptance (R161). -/
theorem acceptCommand_of_unknown (val : Byte) (s : State) (h0 : arity (normalisedOpcode val) = 0)
    (hc : normalisedOpcode val ≠ 0x2C) : acceptCommand val s = unknownCommand (accept val s) := by
  rcases acceptCommand_cases val s with ⟨e, _⟩ | ⟨_, e, _⟩ | ⟨_, _, e⟩
  · exact absurd h0 e
  · exact absurd e hc
  · exact e

/-- A whole command with parameters, issued on an idle block: acceptance, the bytes stored, and the execution (R109). -/
theorem issueCommand_of_idle (val : Byte) (ps : List Byte) (s : State) (hb : busy s = false)
    (hlen : ps.length = arity (normalisedOpcode val)) (h0 : arity (normalisedOpcode val) ≠ 0) :
    issueCommand val ps s = execute (storeParams ps (accept val s)) := by
  rw [issueCommand, writeCommand_of_idle val s hb, acceptCommand_of_params val s h0]
  refine collect_of_complete ps _ ?_ ?_ (arity_le _)
  · rintro rfl; exact h0 hlen.symm
  · rw [accept_eq]; simpa using hlen

/-! ## The outstanding requests, line by line -/

/-- Lines added to the trace act on the outstanding requests one after another (R76). -/
theorem outstanding_of_append {s t : State} (ls : List Line) (h : t.trace = s.trace ++ ls) :
    outstanding t = ls.foldl outstandingAfter (outstanding s) := by
  rw [outstanding, h, List.foldl_append, outstanding]

/-- What taking an event does to the outstanding requests (R76; log 15). -/
theorem outstanding_take (e : Event) (rest : List Event) (s : State) :
    outstanding (s.take e rest) =
      if isReset e then [] else if isOutcome e then (outstanding s).tail else outstanding s :=
  outstanding_of_append [.event e] rfl

/-- The calls of a spin-up are no requests. -/
theorem foldl_spinUpLines (motoron : Bool) (d : Drive) (pending : List Output) :
    (spinUpLines motoron d).foldl outstandingAfter pending = pending := by
  cases motoron <;> rfl

/-- The calls of a spin-down are no requests. -/
theorem foldl_spinDownLines (motoron : Bool) (pending : List Output) :
    (if motoron then spinDownLines else []).foldl outstandingAfter pending = pending := by
  cases motoron <;> rfl

/-- A seek request never becomes outstanding (R76). -/
theorem outstandingAfter_seekRequest (d : Drive) (track : Byte) (s : State) (pending : List Output) :
    outstandingAfter pending (.emit (seekRequest d track s)) = pending := by
  unfold seekRequest
  split <;> rfl

/-- Neither do the lines of an implied seek (R183). -/
theorem foldl_impliedSeek (p : Prop) [Decidable p] (d : Drive) (track : Byte) (s : State) (pending : List Output) :
    (if p then [] else [Line.emit (seekRequest d track s)]).foldl outstandingAfter pending = pending := by
  split
  · rfl
  · exact outstandingAfter_seekRequest d track s pending

/-! ## Ways to meet the in-flight invariant -/

/-- A value of `status` whose data request implies busy and whose result-ready flag implies idle (R43). -/
abbrev Coherent (v : Byte) : Prop :=
  (v.getLsbD 2 = true → v.getLsbD 7 = true) ∧ (v.getLsbD 4 = true → v.getLsbD 7 = false)

theorem coherent_of_mem : ∀ v ∈ statusValues, Coherent v := by decide

/-- Clearing the group of `result` or of `data` keeps a value coherent and busy as it was (R129). -/
theorem coherent_clear (v : Byte) (h : Coherent v) :
    (Coherent (v &&& ~~~resultGroup) ∧ (v &&& ~~~resultGroup).getLsbD 7 = v.getLsbD 7) ∧
    (Coherent (v &&& ~~~dataGroup) ∧ (v &&& ~~~dataGroup).getLsbD 7 = v.getLsbD 7) := by
  revert v; decide

theorem busy_of_statusBusy {s : State} (h : s.status = statusBusy) : busy s = true := by rw [busy, h]; decide

theorem busy_of_dataReady {s : State} (h : s.status = statusDataReady) : busy s = true := by rw [busy, h]; decide

theorem InFlight.coherent {s : State} (h : InFlight s) : Coherent s.status := ⟨h.data_busy, h.result_idle⟩

/-- Nothing is pending on an idle block. -/
theorem InFlight.quiet_of_idle {s : State} (h : InFlight s) (hb : busy s = false) :
    s.timer = 0 ∧ outstanding s = [] := by
  have hidle : ¬busy s = true := by simp [hb]
  exact ⟨Nat.eq_zero_of_not_pos (mt h.timer_busy hidle), not_not.mp fun ho => hidle (h.outstanding_busy ho).1⟩

/-- A command whose request is outstanding has all its parameters. -/
theorem InFlight.complete_of_outstanding {s : State} (h : InFlight s) (ho : outstanding s ≠ []) :
    s.paramnum = s.paramreq :=
  Nat.le_antisymm h.paramnum_le_paramreq (Nat.not_lt.mp fun hlt => ho (h.collecting_quiet hlt).2)

/-- A change that touches neither the timer nor the collector, and ends no busy state, keeps the invariant; requests may be
dropped. -/
theorem InFlight.of_same {s t : State} (h : InFlight s) (htimer : t.timer = s.timer) (hst : Coherent t.status)
    (hbusy : busy s = true → busy t = true) (hnum : t.paramnum = s.paramnum) (hreq : t.paramreq = s.paramreq)
    (hout : outstanding t = outstanding s ∨ outstanding t = []) : InFlight t where
  timer_busy ht := hbusy (h.timer_busy (htimer ▸ ht))
  outstanding_busy ho := by
    rcases hout with e | e
    · obtain ⟨hb, ht⟩ := h.outstanding_busy (e ▸ ho)
      exact ⟨hbusy hb, htimer.trans ht⟩
    · exact absurd e ho
  data_busy := hst.1
  result_idle := hst.2
  at_most_one := by
    rcases hout with e | e
    · exact e ▸ h.at_most_one
    · simp [e]
  paramnum_le_paramreq := by rw [hnum, hreq]; exact h.paramnum_le_paramreq
  collecting_quiet hlt := by
    rw [hnum, hreq] at hlt
    obtain ⟨ht, ho⟩ := h.collecting_quiet hlt
    exact ⟨htimer.trans ht, hout.elim (fun e => e.trans ho) id⟩

/-- With nothing pending the invariant only asks for a coherent status. -/
theorem InFlight.of_quiet {s : State} (ht : s.timer = 0) (ho : outstanding s = []) (hst : Coherent s.status)
    (hnum : s.paramnum ≤ s.paramreq) : InFlight s where
  timer_busy h := by omega
  outstanding_busy h := absurd ho h
  data_busy := hst.1
  result_idle := hst.2
  at_most_one := by simp [ho]
  paramnum_le_paramreq := hnum
  collecting_quiet _ := ⟨ht, ho⟩

/-- A busy block with all its parameters and no request may have a callback pending. -/
theorem InFlight.of_callback {s : State} (hb : busy s = true) (ho : outstanding s = []) (hst : Coherent s.status)
    (hnum : s.paramnum = s.paramreq) : InFlight s where
  timer_busy _ := hb
  outstanding_busy h := absurd ho h
  data_busy := hst.1
  result_idle := hst.2
  at_most_one := by simp [ho]
  paramnum_le_paramreq := Nat.le_of_eq hnum
  collecting_quiet h := by omega

/-- A busy block with all its parameters and no callback may have a request outstanding. -/
theorem InFlight.of_request {s : State} {o : Output} (hb : busy s = true) (ht : s.timer = 0) (ho : outstanding s = [o])
    (hst : Coherent s.status) (hnum : s.paramnum = s.paramreq) : InFlight s where
  timer_busy _ := hb
  outstanding_busy _ := ⟨hb, ht⟩
  data_busy := hst.1
  result_idle := hst.2
  at_most_one := by simp [ho]
  paramnum_le_paramreq := Nat.le_of_eq hnum
  collecting_quiet h := by omega

/-- A command in flight with all its parameters, and nothing pending: the state in which a command executes, and in which
the arm of a callback runs. -/
structure Underway (s : State) : Prop where
  busy_status : busy s = true
  coherent : Coherent s.status
  timer_zero : s.timer = 0
  no_request : outstanding s = []
  complete : s.paramnum = s.paramreq

/-- Taking a value of `status` ends a command that has nothing pending. -/
theorem Underway.ended {s t : State} (h : Underway s) (hst : t.status ∈ statusValues) (ht : t.timer = 0)
    (htrace : t.trace = s.trace) (hnum : t.paramnum = s.paramnum) (hreq : t.paramreq = s.paramreq) : InFlight t :=
  .of_quiet ht (by rw [outstanding, htrace]; exact h.no_request) (coherent_of_mem _ hst)
    (by rw [hnum, hreq]; exact Nat.le_of_eq h.complete)

/-! ## The operations -/

/-- `Execute()` leads from a command underway to a pending callback or to the end of the command. -/
theorem Underway.execute {s : State} (h : Underway s) : InFlight (execute s) := by
  rcases execute_cases s with ⟨_, e⟩ | ⟨_, e⟩ | ⟨_, e⟩ | ⟨_, e⟩ | ⟨_, e⟩ | ⟨_, e⟩ | ⟨_, e⟩ <;> rw [e]
  · rw [specify_eq]; exact h.ended statusIdle_mem h.timer_zero rfl rfl rfl
  · rcases readSpecial_cases s with ⟨v, r⟩ | r <;> rw [r]
    · exact h.ended statusReady_mem h.timer_zero rfl rfl rfl
    · exact h.ended statusTerminal_mem rfl rfl rfl rfl
  · rcases writeSpecial_cases s with ⟨d, r⟩ | r | r | r <;> rw [r]
    · exact h.ended statusIdle_mem h.timer_zero rfl rfl rfl
    · exact h.ended statusIdle_mem h.timer_zero rfl rfl rfl
    · exact h.ended statusIdle_mem h.timer_zero rfl rfl rfl
    · exact h.ended statusTerminal_mem rfl rfl rfl rfl
  · rw [seekStart_eq]
    refine .of_callback h.busy_status ?_ h.coherent h.complete
    rw [outstanding_of_append _ rfl, List.foldl_cons, outstandingAfter_seekRequest, foldl_spinUpLines, h.no_request]
  · rw [sectorStart_eq]
    refine .of_callback h.busy_status ?_ h.coherent h.complete
    rw [outstanding_of_append _ rfl, List.foldl_append, foldl_spinUpLines, foldl_impliedSeek, h.no_request]
  · rw [formatStart_eq]
    refine .of_callback h.busy_status ?_ h.coherent h.complete
    rw [outstanding_of_append _ rfl, List.foldl_append, foldl_spinUpLines, foldl_impliedSeek, h.no_request]
  · exact h.ended statusTerminal_mem rfl rfl rfl rfl

/-- A port-1 write inside a collection window (R321). -/
theorem InFlight.collectParameter {s : State} (h : InFlight s) (hc : collecting s = true) (val : Byte) :
    InFlight (collectParameter val s) := by
  obtain ⟨hb, hlt⟩ : busy s = true ∧ s.paramnum < s.paramreq := by simpa [collecting] using hc
  obtain ⟨ht, ho⟩ := h.collecting_quiet hlt
  by_cases hroom : s.paramnum < 5
  · rw [collectParameter_of_lt val s hroom]
    split
    · next hlast => exact Underway.execute ⟨hb, h.coherent, ht, ho, hlast⟩
    · exact .of_quiet ht ho h.coherent hlt
  · have hstore := storeParam_of_ge val s (Nat.not_lt.mp hroom)
    rcases collectParameter_cases val s with ⟨hlast, _⟩ | ⟨_, e⟩
    · rw [hstore] at hlast; omega
    · rwa [e, hstore]

/-- The acceptance of a command byte reaches no collaborator but the drive (R141). -/
theorem outstanding_accept (val : Byte) (s : State) : outstanding (accept val s) = outstanding s :=
  outstanding_of_append [.emit (.setDriveActive (driveOf val) true)] rfl

/-- A port-0 write, accepted or not. -/
theorem InFlight.writeCommand {s : State} (h : InFlight s) (val : Byte) : InFlight (writeCommand val s) := by
  cases hb : busy s with
  | true => rwa [writeCommand_of_busy val s hb]
  | false =>
    obtain ⟨ht, ho⟩ := h.quiet_of_idle hb
    have hout : outstanding (accept val s) = [] := (outstanding_accept val s).trans ho
    rw [writeCommand_of_idle val s hb]
    rcases acceptCommand_cases val s with ⟨_, e⟩ | ⟨_, _, e⟩ | ⟨_, _, e⟩ <;> rw [e]
    · exact .of_quiet ht hout (coherent_of_mem _ statusBusy_mem) (Nat.zero_le _)
    · exact .of_quiet ht hout (coherent_of_mem _ statusReady_mem) (Nat.zero_le _)
    · exact .of_quiet rfl hout (coherent_of_mem _ statusTerminal_mem) (Nat.zero_le _)

/-- A whole command issued on an idle block (R320). -/
theorem InFlight.issueCommand {s : State} (h : InFlight s) (hb : busy s = false) (val : Byte) (ps : List Byte)
    (hlen : ps.length = arity (normalisedOpcode val)) : InFlight (issueCommand val ps s) := by
  by_cases h0 : arity (normalisedOpcode val) = 0
  · obtain rfl : ps = [] := List.eq_nil_of_length_eq_zero (hlen.trans h0)
    exact h.writeCommand val
  · obtain ⟨ht, ho⟩ := h.quiet_of_idle hb
    have hfit : (accept val s).paramnum + ps.length ≤ 5 := by
      rw [accept_eq, hlen]; simpa using arity_le _
    obtain ⟨qs, hqs⟩ := storeParams_keeps ps (accept val s) hfit
    rw [issueCommand_of_idle val ps s hb hlen h0, hqs]
    have hout : outstanding (accept val s) = [] := (outstanding_accept val s).trans ho
    exact Underway.execute
      ⟨busy_of_statusBusy rfl, coherent_of_mem _ statusBusy_mem, ht, hout, (Nat.zero_add _).trans hlen⟩

/-- A sector command's arm, from a command underway: its request becomes the one outstanding, or the command ends. -/
theorem Underway.sectorArm {request reload : State → State} (hreq : ∀ u, Underway u → InFlight (request u))
    (hrel : ∀ u, Underway u → Underway (reload u)) {s : State} (h : Underway s) :
    InFlight (sectorArm request reload s) := by
  rcases sectorArm_cases request reload s with ⟨_, e⟩ | ⟨_, _, e⟩ | ⟨_, _, e⟩ <;> rw [e]
  · exact hreq _ { h with }
  · exact h.ended statusTerminal_mem h.timer_zero rfl rfl rfl
  · exact hreq _ (hrel _ { h with })

/-- A request that follows an arm becomes the one outstanding. -/
theorem Underway.requested {s t : State} {o : Output} (h : Underway s) (htrace : t.trace = s.trace ++ [.emit o])
    (ho : isTransferRequest o = true) (hst : t.status = s.status ∨ t.status = statusDataReady) (ht : t.timer = s.timer)
    (hnum : t.paramnum = s.paramnum) (hreq : t.paramreq = s.paramreq) : InFlight t := by
  have hout : outstanding t = [o] := by
    rw [outstanding_of_append _ htrace, h.no_request]
    simp [outstandingAfter, ho]
  have hstatus : busy t = true ∧ Coherent t.status := by
    rcases hst with e | e
    · rw [busy, e]; exact ⟨h.busy_status, h.coherent⟩
    · exact ⟨busy_of_dataReady e, e ▸ coherent_of_mem _ statusDataReady_mem⟩
  exact .of_request hstatus.1 (ht.trans h.timer_zero) hout hstatus.2 (by rw [hnum, hreq, h.complete])

theorem Underway.formatArm {s : State} (h : Underway s) : InFlight (formatArm s) := by
  unfold Machine.formatArm
  split
  · exact h.requested rfl rfl (.inr rfl) rfl rfl rfl
  · exact h.ended statusTerminal_mem h.timer_zero rfl rfl rfl

/-- A callback is pending only for a command with all its parameters and no request outstanding. -/
theorem InFlight.underway_of_timer {s : State} (h : InFlight s) (ht : 0 < s.timer) : Underway { s with timer := 0 } where
  busy_status := h.timer_busy ht
  coherent := h.coherent
  timer_zero := rfl
  no_request := not_not.mp fun ho => Nat.ne_of_gt ht (h.outstanding_busy ho).2
  complete := Nat.le_antisymm h.paramnum_le_paramreq
    (Nat.not_lt.mp fun hlt => Nat.ne_of_gt ht (h.collecting_quiet hlt).1)

theorem InFlight.timerCallback {s : State} (h : InFlight s) (ht : 0 < s.timer) : InFlight (timerCallback s) := by
  have h0 := h.underway_of_timer ht
  have hwrite (u : State) (hu : Underway u) : InFlight (writeRequest u) := hu.requested rfl rfl (.inr rfl) rfl rfl rfl
  have hread (u : State) (hu : Underway u) : InFlight (readRequest u) := hu.requested rfl rfl (.inl rfl) rfl rfl rfl
  have haddress (u : State) (hu : Underway u) : InFlight (addressRequest u) :=
    hu.requested rfl rfl (.inl rfl) rfl rfl rfl
  have hbytes (f : State → Nat) (u : State) (hu : Underway u) : Underway { u with bytesleft := f u } := { hu with }
  rcases timerCallback_cases s with ⟨_, e⟩ | ⟨_, e⟩ | ⟨_, e⟩ | ⟨_, e⟩ | ⟨_, e⟩ | ⟨_, e⟩ | ⟨_, e⟩ <;> rw [e]
  · exact h0.sectorArm hwrite fun _ hu => hu
  · exact h0.sectorArm hread (hbytes fun u => sectorLength u.params[2])
  · exact h0.sectorArm hread fun _ hu => hu
  · exact h0.sectorArm haddress (hbytes fun _ => 4)
  · exact h0.formatArm
  · exact h0.ended statusTerminal_mem rfl rfl rfl rfl
  · exact .of_callback h0.busy_status h0.no_request h0.coherent h0.complete

theorem InFlight.motorOff {s : State} (h : InFlight s) : InFlight (motorOff s) := by
  rw [motorOff_eq]
  refine h.of_same rfl h.coherent id rfl rfl (.inl ?_)
  rw [outstanding_of_append _ rfl, foldl_spinDownLines]

/-- `put_data` while a request is outstanding or in the reset state (R77 (a), R78). -/
theorem InFlight.putData {s : State} (h : InFlight s) (b : Byte) : InFlight (putData b s) := by
  by_cases hc : s.command = 0xFF ∨ s.command = 0x1F
  · rwa [putData_of_ignored b s hc]
  · rw [putData_of_taken b s hc]
    exact h.of_same rfl (coherent_of_mem _ statusDataReady_mem) (fun _ => busy_of_dataReady rfl) rfl rfl (.inl rfl)

/-- `get_data`, taken or not. -/
theorem InFlight.getData {s : State} (h : InFlight s) (isLast : Bool) : InFlight (getData isLast s) := by
  have hrefused (t : State) (h : t.trace = s.trace ++ [.notWritten]) : outstanding t = outstanding s :=
    outstanding_of_append [.notWritten] h
  have hgiven (t : State) (h : t.trace = s.trace ++ [.gave s.data]) : outstanding t = outstanding s :=
    outstanding_of_append [.gave s.data] h
  by_cases hn : s.command = 0xFF ∨ s.written = false
  · rw [getData_of_notWritten isLast s hn]
    exact h.of_same rfl h.coherent id rfl rfl (.inl (hrefused _ rfl))
  · obtain ⟨hc, hw⟩ := not_or.mp hn
    rw [getData_of_written isLast s hc (Bool.eq_true_of_not_eq_false hw)]
    cases isLast
    · exact h.of_same rfl (coherent_of_mem _ statusDataReady_mem) (fun _ => busy_of_dataReady rfl) rfl rfl (.inl (hgiven _ rfl))
    · exact h.of_same rfl h.coherent id rfl rfl (.inl (hgiven _ rfl))

/-- A notification ends the only outstanding request (R76, R77). -/
theorem InFlight.outstanding_take_outcome {s : State} (h : InFlight s) (e : Event) (rest : List Event)
    (he : isOutcome e = true) : outstanding (s.take e rest) = [] := by
  have htail : (outstanding s).tail = [] := by
    have := h.at_most_one
    exact List.eq_nil_of_length_eq_zero (by rw [List.length_tail]; omega)
  rw [outstanding_take, he, if_pos rfl, htail, ite_self]

/-- Taking an event that is no reset keeps the invariant, whether or not it ends a request. -/
theorem InFlight.take {s : State} (h : InFlight s) (e : Event) (rest : List Event) (he : isReset e = false) :
    InFlight (s.take e rest) := by
  refine h.of_same rfl h.coherent id rfl rfl ?_
  cases ho : isOutcome e with
  | true => exact .inr (h.outstanding_take_outcome e rest ho)
  | false => exact .inl (by rw [outstanding_take, he, ho]; rfl)

/-- A success for an outstanding request, or in the reset state (R254). -/
theorem InFlight.success {s : State} (h : InFlight s) (rest : List Event) (deleted : Bool)
    (ha : outstanding s ≠ [] ∨ s.command = 0xFF) : InFlight (success deleted (s.take (.success deleted) rest)) := by
  have htake : InFlight (s.take (.success deleted) rest) := h.take _ rest rfl
  by_cases hc : (s.take (.success deleted) rest).command = 0xFF
  · rwa [success_of_reset deleted _ hc]
  · have hout := ha.resolve_right hc
    rw [success_of_command deleted _ hc]
    exact .of_callback (h.outstanding_busy hout).1 (h.outstanding_take_outcome _ rest rfl) h.coherent
      (h.complete_of_outstanding hout)

/-- An error notification (R278). -/
theorem InFlight.errorOutcome {s : State} (h : InFlight s) (code : Byte) (e : Event) (rest : List Event)
    (hr : isReset e = false) (he : isOutcome e = true) : InFlight (errorOutcome code (s.take e rest)) := by
  by_cases hc : (s.take e rest).command = 0xFF
  · rw [errorOutcome_of_reset code _ hc]
    exact h.take e rest hr
  · rw [errorOutcome_of_command code _ hc]
    exact .of_quiet rfl (h.outstanding_take_outcome e rest he) (coherent_of_mem _ statusTerminal_mem)
      h.paramnum_le_paramreq

/-! ## The obligations -/

/-- Settles O52. -/
theorem resetStateIsInFlight : Obligations.ResetStateIsInFlight :=
  .of_quiet rfl rfl (coherent_of_mem _ statusIdle_mem) (Nat.zero_le 0)

/-- A reset drops every request and leaves nothing pending (R310, R311; log 15). -/
theorem inFlight_of_reset {s t : State} {e : Event} {rest : List Event} (he : isReset e = true)
    (htrace : t.trace = (s.take e rest).trace) (ht : t.timer = 0) (hst : t.status = statusIdle) (hnum : t.paramnum = 0) :
    InFlight t := by
  have hout : outstanding t = [] := by
    rw [outstanding, htrace, ← outstanding, outstanding_take, if_pos he]
  exact .of_quiet ht hout (hst ▸ coherent_of_mem _ statusIdle_mem) (by rw [hnum]; exact Nat.zero_le _)

/-- A host action that keeps the contract (R320, R321). -/
theorem InFlight.handle_host {s t : State} (h : InFlight s) (a : HostAction) (rest : List Event)
    (ha : Admissible (.host a) s) (ht : handle (.host a) (s.take (.host a) rest) = .next t) : InFlight t := by
  have hclear := coherent_clear s.status h.coherent
  have hreturned (u : State) (v : Byte) : outstanding (returnByte v u) = outstanding u :=
    outstanding_of_append [.returned v] rfl
  rcases handle_host_cases a _ t ht with ⟨addr, rfl, e⟩ | ⟨addr, val, rfl, e⟩ | ⟨val, ps, rfl, hlen, e⟩
  case inl =>
    have htake : InFlight (s.take (.host (.read addr)) rest) := h.take _ rest rfl
    rcases e with rfl | rfl | rfl | rfl
    · exact htake.of_same rfl htake.coherent id rfl rfl (.inl (hreturned _ _))
    · exact htake.of_same rfl hclear.1.1 (fun hb => hclear.1.2.trans hb) rfl rfl (.inl (hreturned _ _))
    · exact htake.of_same rfl hclear.2.1 (fun hb => hclear.2.2.trans hb) rfl rfl (.inl (hreturned _ _))
    · exact htake.of_same rfl htake.coherent id rfl rfl (.inl (hreturned _ _))
  case inr.inl =>
    cases hreset : isReset (.host (.write addr val)) with
    | true =>
      obtain ⟨hport, hbit⟩ : portOf addr = 2 ∧ val.getLsbD 0 = true := by simpa [isReset] using hreset
      simp only [hport, hbit] at e
      obtain rfl : t = controllerReset (s.take (.host (.write addr val)) rest) := by simpa using e
      exact inFlight_of_reset (s := s) (rest := rest) hreset rfl rfl rfl rfl
    | false =>
      have htake : InFlight (s.take (.host (.write addr val)) rest) := h.take _ rest hreset
      rcases e with ⟨_, rfl⟩ | ⟨hport, rfl⟩ | ⟨hport, rfl⟩ | ⟨_, rfl⟩ | ⟨_, rfl⟩
      · exact htake.writeCommand val
      · exact htake.collectParameter (ha hport) val
      · have hbit : ¬val.getLsbD 0 = true := by simpa [isReset, hport] using hreset
        rwa [if_neg hbit]
      · exact htake.of_same rfl hclear.2.1 (fun hb => hclear.2.2.trans hb) rfl rfl (.inl rfl)
      · exact htake
  case inr.inr =>
    subst e
    exact (h.take _ rest rfl).issueCommand ha val ps hlen

/-- Settles O53: taking an event ends at most the one outstanding request, and the rule of every admissible event keeps the
invariant from there. -/
theorem stepKeepsInFlight : Obligations.StepKeepsInFlight := by
  intro s t h hadm ht
  rcases step_cases s t ht with ⟨_, rfl⟩ | ⟨e, rest, hin, hen, he⟩
  · exact h
  · have ha : Admissible e s := hadm e rest hin
    cases e with
    | host a => exact h.handle_host a rest ha he
    | powerOn => cases he; exact inFlight_of_reset (s := s) (rest := rest) (e := .powerOn) rfl rfl rfl rfl rfl
    | timerCallback =>
      cases he
      exact (h.take _ rest rfl).timerCallback (of_decide_eq_true hen)
    | motorOff => cases he; exact (h.take _ rest rfl).motorOff
    | putData b => cases he; exact (h.take _ rest rfl).putData b
    | getData isLast => cases he; exact (h.take _ rest rfl).getData isLast
    | success deleted => cases he; exact h.success rest deleted ha
    | notFound => cases he; exact h.errorOutcome _ _ rest rfl rfl
    | headerCRC => cases he; exact h.errorOutcome _ _ rest rfl rfl
    | dataCRC deleted => cases he; exact h.errorOutcome _ _ rest rfl rfl
    | writeProtect => cases he; exact h.errorOutcome _ _ rest rfl rfl

end Sys2Proof.Machine

/-! PROOFS of the commands (41_parameter_collector_and_dispatch.md to 45_format_command.md): what a host write to port 0 or
to port 1 and a whole command on an idle block do, that is the dispatcher, the collector, the synchronous commands and the
starts of the disc commands. -/

namespace Sys2Proof.Machine

/-! ## The dispatcher -/

/-- Read drive status reads the track of the drive just addressed and, since its opcode is not below the threshold, the old
`drvout` (R107, R160). -/
theorem driveStatus_accept (val : Byte) (s : State) (hc : normalisedOpcode val = 0x2C) :
    driveStatus (accept val s) =
      Config.rdsBase ||| (if s.curtrack[driveOf val] = 0 then Config.rdsTrk0 else 0)
        ||| (if s.drvout.getLsbD 6 then Config.rdsSel0 else 0)
        ||| (if s.drvout.getLsbD 7 then Config.rdsSel1 else 0) := by
  have hdrvout : (accept val s).drvout = s.drvout := if_neg (by rw [hc]; decide)
  rw [driveStatus, hdrvout]
  rfl

/-- Settles O9, clause by clause. -/
theorem commandWriteDispatches : Obligations.CommandWriteDispatches := by
  intro s addr val c d t
  have haccept : accept val s = t := accept_eq val s
  refine ⟨?busy, ?window, ?driveStatus, ?unknown⟩
  case busy =>
    intro hb
    rw [exec_portWriteCommand, writeCommand_of_busy val s hb]
  case window =>
    intro hb h0
    rw [exec_portWriteCommand_of_idle addr val s hb, acceptCommand_of_params val s h0, haccept]
  case driveStatus =>
    intro hb hc
    rw [exec_portWriteCommand_of_idle addr val s hb, acceptCommand_of_driveStatus val s hc, readDriveStatus,
      driveStatus_accept val s hc, haccept]
    rfl
  case unknown =>
    intro hb h0 hc
    rw [exec_portWriteCommand_of_idle addr val s hb, acceptCommand_of_unknown val s h0 hc, haccept]
    rfl

/-- Parameter bytes written to port 1 one after another. -/
theorem execAll_portWriteParameter (ps : List Byte) (s : State) :
    execAll (ps.map (.portWriteParameter 1 ·)) s = .next (ps.foldl (fun u p => collectParameter p u) s) := by
  induction ps generalizing s with
  | nil => rfl
  | cons p ps ih => exact ih (collectParameter p s)

/-- Settles O14. -/
theorem commandIsItsPortWrites : Obligations.CommandIsItsPortWrites := by
  intro i s val ps h
  rw [exec_of_encode_command i val ps s h]
  exact (execAll_portWriteParameter ps (writeCommand val s)).symm

/-! ## The collector -/

/-- Settles O11. -/
theorem parameterWriteCollects : Obligations.ParameterWriteCollects := by
  intro s addr val
  constructor
  · intro hroom t
    exact congrArg Host.Outcome.next (collectParameter_of_lt val s hroom)
  · intro hfull
    refine congrArg Host.Outcome.next ?_
    rw [collectParameter, storeParam_of_ge val s hfull]

/-- Settles O12, by the case of `Execute()` that applies. -/
theorem executeSelectsByCommand : Obligations.ExecuteSelectsByCommand := by
  intro s
  rcases execute_cases s with ⟨hc, e⟩ | ⟨hc, e⟩ | ⟨hc, e⟩ | ⟨hc, e⟩ | ⟨hc, e⟩ | ⟨hc, e⟩ | ⟨hc, e⟩ <;> rw [e]
  · rw [if_pos hc]
  · simp [hc]
  · simp [hc]
  · simp [hc]
  · simp only [List.mem_cons, List.not_mem_nil, or_false] at hc
    rcases hc with hc | hc | hc | hc <;> simp [hc]
  · simp [hc]
  · simp only [List.mem_cons, List.not_mem_nil, or_false, not_or] at hc
    simp only [List.mem_cons, List.not_mem_nil, or_false, hc, if_false]
    rfl

/-- Settles O13: the byte is dropped, and the collector executes the Format again. -/
theorem sixthParameterRerunsFormat : Obligations.SixthParameterRerunsFormat := by
  intro s addr val hc hnum hreq
  have hdropped : 5 ≤ s.paramnum := Nat.le_of_eq hnum.symm
  have hexecute : execute s = formatStart s := by rw [executeSelectsByCommand s]; simp [hc]
  rw [(parameterWriteCollects s addr val).2 hdropped, if_pos (hnum.trans hreq.symm), hexecute, formatStart_eq,
    List.append_assoc]

/-- Settles O5, by the value of bit 0. -/
theorem resetWriteResetsTheController : Obligations.ResetWriteResetsTheController := by
  intro s addr val
  rw [exec_portWriteReset]
  rfl

/-! ## A whole command on an idle block, up to its execution -/

/-- The acceptance of a command byte, by its fields. -/
theorem accept_commandByte (sel1 sel0 : Bool) (opc : Opcode) (c : Byte) (s : State)
    (hc : normalisedOpcode (commandByte sel1 sel0 opc) = c) :
    accept (commandByte sel1 sel0 opc) s =
      { accepted c sel1 s.params 0 s with
        drvout := if c < 0x2C then drvoutSelected s.drvout sel1 sel0 else s.drvout
        paramreq := arity c } := by
  subst hc
  rw [accept_eq, selectBits_commandByte, driveOf_commandByte]
  rfl

/-- A command with parameters, on an idle block: acceptance, the bytes stored, the execution. -/
theorem exec_of_idle (i : Instr) (sel1 sel0 : Bool) (opc : Opcode) (ps : List Byte) (c : Byte) (s : State)
    (hb : busy s = false) (hi : encode i = .command (commandByte sel1 sel0 opc :: ps))
    (hc : normalisedOpcode (commandByte sel1 sel0 opc) = c) (hlen : ps.length = arity c) (h0 : arity c ≠ 0) :
    exec i s = .next (execute (storeParams ps
      { accepted c sel1 s.params 0 s with
        drvout := if c < 0x2C then drvoutSelected s.drvout sel1 sel0 else s.drvout
        paramreq := arity c })) := by
  subst hc
  rw [exec_of_encode_command i _ _ s hi, issueCommand_of_idle _ ps s hb hlen h0, accept_commandByte _ _ _ _ s rfl]

/-! ## The synchronous commands -/

/-- Settles O15. -/
theorem readDriveStatusComposesItsResult : Obligations.ReadDriveStatusComposesItsResult := by
  intro s sel1 sel0 hb
  have hc : normalisedOpcode (commandByte sel1 sel0 0x2C) = 0x2C := normalisedOpcode_commandByte sel1 sel0 0x2C
  rw [exec_of_encode_command (.rdDrvStatus sel1 sel0) _ _ s rfl, issueCommand, List.foldl_nil,
    writeCommand_of_idle _ s hb, acceptCommand_of_driveStatus _ s hc, accept_commandByte _ _ _ _ s hc]
  rfl

/-- Clearing the bits of a mask that a byte does not meet changes nothing. -/
theorem and_not_of_disjoint {a m : Byte} (h : a &&& m = 0) : a &&& ~~~m = a := by
  ext i hi
  have hbit := congrArg (fun v => v[i]) h
  simp only [BitVec.getElem_and, BitVec.getElem_not] at hbit ⊢
  cases hm : m[i] <;> simp_all

/-- Clearing the bits of a union of masks clears each of them. -/
theorem and_not_union (m0 m1 m2 : Byte) :
    m0 &&& ~~~(m0 ||| m1 ||| m2) = 0 ∧ m1 &&& ~~~(m0 ||| m1 ||| m2) = 0 ∧ m2 &&& ~~~(m0 ||| m1 ||| m2) = 0 := by
  refine ⟨?_, ?_, ?_⟩ <;> (ext i hi; simp; grind)

/-- A mask looks at a flag. -/
theorem flag_and (p : Bool) (m n : Byte) : (if p then m else 0) &&& n = if p then m &&& n else 0 := by
  cases p <;> simp

/-- A byte composed of a base and three flags with masks that do not meet: each mask finds its own flag, and the rest is the
base. -/
theorem masks_find_flags {base m0 m1 m2 : Byte} (h01 : m0 &&& m1 = 0) (h02 : m0 &&& m2 = 0) (h12 : m1 &&& m2 = 0)
    (hbase : base &&& (m0 ||| m1 ||| m2) = 0) {r : Byte} (p0 p1 p2 : Bool)
    (hr : r = base ||| (if p0 then m0 else 0) ||| (if p1 then m1 else 0) ||| (if p2 then m2 else 0)) :
    r &&& m0 = (if p0 then m0 else 0) ∧ r &&& m1 = (if p1 then m1 else 0) ∧ r &&& m2 = (if p2 then m2 else 0) ∧
      r &&& ~~~(m0 ||| m1 ||| m2) = base := by
  have h10 : m1 &&& m0 = 0 := BitVec.and_comm m1 m0 ▸ h01
  have h20 : m2 &&& m0 = 0 := BitVec.and_comm m2 m0 ▸ h02
  have h21 : m2 &&& m1 = 0 := BitVec.and_comm m2 m1 ▸ h12
  obtain ⟨⟨hb0, hb1⟩, hb2⟩ : (base &&& m0 = 0 ∧ base &&& m1 = 0) ∧ base &&& m2 = 0 := by
    simpa [BitVec.and_or_distrib_left, BitVec.or_eq_zero_iff] using hbase
  subst hr
  refine ⟨?_, ?_, ?_, ?_⟩
  · simp only [BitVec.and_or_distrib_right, flag_and, hb0, h10, h20]; simp
  · simp only [BitVec.and_or_distrib_right, flag_and, hb1, h01, h21]; simp
  · simp only [BitVec.and_or_distrib_right, flag_and, hb2, h02, h12]; simp
  · obtain ⟨h0, h1, h2⟩ := and_not_union m0 m1 m2
    simp only [BitVec.and_or_distrib_right, flag_and, h0, h1, h2, and_not_of_disjoint hbase]; simp

/-- A mask of one bit is not empty. -/
theorem ne_zero_of_oneBit {m : Byte} (h : OneBit m) : m ≠ 0 := by
  obtain ⟨k, rfl⟩ := h
  revert k; decide

/-- A flag that is a mask or empty is not empty exactly when it is set. -/
theorem flag_ne_zero_iff {m : Byte} (h : OneBit m) (p : Bool) : (if p then m else 0) ≠ 0 ↔ p = true := by
  cases p
  · simp
  · simpa using ne_zero_of_oneBit h

/-- Settles O16: the masks do not meet and none is empty. -/
theorem driveStatusFlagsAreReadable : Obligations.DriveStatusFlagsAreReadable := by
  intro s sel1 sel0 hb
  refine ⟨_, readDriveStatusComposesItsResult s sel1 sel0 hb, ?_⟩
  obtain ⟨htrk0, hsel0, hsel1, hrest⟩ := masks_find_flags Config.rdsTrk0_off_rdsSel0 Config.rdsTrk0_off_rdsSel1
    Config.rdsSel0_off_rdsSel1 Config.rdsBase_off_flags (decide (s.curtrack[driveNamed sel1] = 0)) (s.drvout.getLsbD 6)
    (s.drvout.getLsbD 7) rfl
  simp only [decide_eq_true_eq] at htrk0 hsel0 hsel1 hrest
  refine ⟨?trk0, ?sel0, ?sel1, hrest⟩
  case trk0 =>
    have hflag := flag_ne_zero_iff Config.rdsTrk0_one_bit (decide (s.curtrack[driveNamed sel1] = 0))
    simp only [decide_eq_true_eq] at hflag
    rwa [htrk0]
  case sel0 => rw [hsel0]; exact flag_ne_zero_iff Config.rdsSel0_one_bit _
  case sel1 => rw [hsel1]; exact flag_ne_zero_iff Config.rdsSel1_one_bit _

/-- Each row of `unknownOpcodes` is encoded with its own value as opcode, which the dispatcher does not know. -/
theorem unknownOpcodes_encode (sel1 sel0 : Bool) : ∀ p ∈ unknownOpcodes sel1 sel0,
    encode p.1 = .command [commandByte sel1 sel0 (p.2.setWidth 6)] ∧
    normalisedOpcode (commandByte sel1 sel0 (p.2.setWidth 6)) = p.2 ∧ arity p.2 = 0 ∧ p.2 ≠ 0x2C := by
  revert sel1 sel0; decide

/-- Settles O17. -/
theorem unknownOpcodesTakeTheErrorPattern : Obligations.UnknownOpcodesTakeTheErrorPattern := by
  intro s sel1 sel0 hb p hp
  obtain ⟨hi, hc, h0, hs⟩ := unknownOpcodes_encode sel1 sel0 p hp
  rw [exec_of_encode_command p.1 _ _ s hi]
  exact congrArg Host.Outcome.next (writeCommand_unknown sel1 sel0 _ _ s hb hc h0 hs)

/-- Settles O18. -/
theorem specifySetsTheTimingRegisters : Obligations.SpecifySetsTheTimingRegisters := by
  intro s sel1 sel0 key step settle unloadLoad hb
  have hexec : exec (.specify sel1 sel0 key step settle unloadLoad) s = .next (specify
      (accepted 0x35 sel1 ((((s.params.set 0 key).set 1 step).set 2 settle).set 3 unloadLoad) 4 s)) :=
    exec_of_idle _ sel1 sel0 0x35 [key, step, settle, unloadLoad] 0x35 s hb rfl
      (normalisedOpcode_commandByte sel1 sel0 0x35) rfl (by decide)
  rw [hexec, specify_eq]
  simp [accepted]

/-- Settles O19. -/
theorem readSpecialSelectsByIndex : Obligations.ReadSpecialSelectsByIndex := by
  intro s sel1 sel0 index hb _ _ t
  have hexec : exec (.rdSpecial sel1 sel0 index) s = .next (readSpecial t) :=
    exec_of_idle _ sel1 sel0 0x3D [index] 0x3D s hb rfl (normalisedOpcode_commandByte sel1 sel0 0x3D) rfl (by decide)
  have hindex : t.params[0] = index := Vector.getElem_set_self _
  rw [hexec, readSpecial, hindex]
  rfl

/-- Settles O20. -/
theorem writeSpecialSelectsByIndex : Obligations.WriteSpecialSelectsByIndex := by
  intro s sel1 sel0 index value hb t
  have hexec : exec (.wrSpecial sel1 sel0 index value) s = .next (writeSpecial t) :=
    exec_of_idle _ sel1 sel0 0x3A [index, value] 0x3A s hb rfl (normalisedOpcode_commandByte sel1 sel0 0x3A) rfl
      (by decide)
  have hindex : t.params[0] = index := by simp [t, accepted]
  have hvalue : t.params[1] = value := by simp [t, accepted]
  rw [hexec, writeSpecial, hindex, hvalue]
  rfl

/-! ## The start of a disc command -/

/-- Settles O21, by whether the track is 0. -/
theorem seekIssuesItsRequest : Obligations.SeekIssuesItsRequest := by
  intro s sel1 sel0 track hb d t
  have hexec : exec (.seek sel1 sel0 track) s =
      .next (seekStart { t with drvout := drvoutSelected s.drvout sel1 sel0 }) :=
    exec_of_idle _ sel1 sel0 0x29 [track] 0x29 s hb rfl (normalisedOpcode_commandByte sel1 sel0 0x29) rfl (by decide)
  have htrack : t.params[0] = track := Vector.getElem_set_self _
  constructor
  · intro h0
    rw [hexec, seekStart_eq, htrack, seekCycles, seekRequest, if_pos h0, if_pos h0]
    rfl
  · intro h0
    rw [hexec, seekStart_eq, htrack, seekCycles, seekRequest, if_neg h0, if_neg h0]
    rfl

/-- Settles O22: each of the five rows runs `SectorStart()` under the value that is stored for its opcode. -/
theorem sectorCommandsStart : Obligations.SectorCommandsStart := by
  intro s sel1 sel0 track sector sizeCount hb p hp d t
  have hexec : exec p.1 s = .next (sectorStart { t with drvout := drvoutSelected s.drvout sel1 sel0 }) := by
    simp only [List.mem_cons, List.not_mem_nil, or_false] at hp
    rcases hp with rfl | rfl | rfl | rfl | rfl
    · exact exec_of_idle _ sel1 sel0 0x0B [track, sector, sizeCount] _ s hb rfl
        (normalisedOpcode_commandByte sel1 sel0 0x0B) rfl (by decide)
    · exact exec_of_idle _ sel1 sel0 0x13 [track, sector, sizeCount] _ s hb rfl
        (normalisedOpcode_commandByte sel1 sel0 0x13) rfl (by decide)
    · exact exec_of_idle _ sel1 sel0 0x17 [track, sector, sizeCount] _ s hb rfl
        (normalisedOpcode_commandByte sel1 sel0 0x17) rfl (by decide)
    · exact exec_of_idle _ sel1 sel0 0x1B [track, sector, sizeCount] _ s hb rfl
        (normalisedOpcode_commandByte sel1 sel0 0x1B) rfl (by decide)
    · exact exec_of_idle _ sel1 sel0 0x1F [track, sector, sizeCount] _ s hb rfl
        (normalisedOpcode_commandByte sel1 sel0 0x1F) rfl (by decide)
  have htrack : t.params[0] = track := by simp [t, accepted]
  have hsector : t.params[1] = sector := by simp [t, accepted]
  have hsize : t.params[2] = sizeCount := by simp [t, accepted]
  rw [hexec, sectorStart_eq]
  simp only [htrack, hsector, hsize, sectorCount_eq, sectorLength_eq, List.append_assoc]
  rfl

/-- Settles O23. -/
theorem formatStarts : Obligations.FormatStarts := by
  intro s sel1 sel0 track p1 p2 p3 p4 hb d t
  have hexec : exec (.format sel1 sel0 track p1 p2 p3 p4) s =
      .next (formatStart { t with drvout := drvoutSelected s.drvout sel1 sel0 }) :=
    exec_of_idle _ sel1 sel0 0x23 [track, p1, p2, p3, p4] 0x23 s hb rfl (normalisedOpcode_commandByte sel1 sel0 0x23) rfl
      (by decide)
  have htrack : t.params[0] = track := by simp [t, accepted]
  rw [hexec, formatStart_eq]
  simp only [htrack, List.append_assoc]
  rfl

end Sys2Proof.Machine

/-! PROOFS of the events (46_motor_drive_manager.md, 47_data_transfer_and_success.md, 60_exceptions.md): what a step does for
each event that is no host action, that is the arms of the timer callback, the motor, the byte transfers and the
notifications, and power-on. -/

namespace Sys2Proof.Machine

/-! ## The arm of each command -/

theorem timerCallback_writeSector (s : State) (h : s.command = 0x0B) :
    timerCallback s = writeSectorArm { s with timer := 0 } := by simp [timerCallback, h]

theorem timerCallback_readSector (s : State) (h : s.command = 0x13) :
    timerCallback s = readSectorArm { s with timer := 0 } := by simp [timerCallback, h]

theorem timerCallback_verify (s : State) (h : s.command = 0x1F) :
    timerCallback s = verifyArm { s with timer := 0 } := by simp [timerCallback, h]

theorem timerCallback_readId (s : State) (h : s.command = 0x1B) :
    timerCallback s = readIdArm { s with timer := 0 } := by simp [timerCallback, h]

theorem timerCallback_format (s : State) (h : s.command = 0x23) :
    timerCallback s = formatArm { s with timer := 0 } := by simp [timerCallback, h]

theorem timerCallback_seek (s : State) (h : s.command = 0x29) :
    timerCallback s = seekDone { s with timer := 0 } := by simp [timerCallback, h]

/-- The request of a Write sector, with data-ready (R192). -/
theorem writeRequest_eq (s : State) :
    writeRequest s =
      { s with
        status := 0x8C
        trace := s.trace ++
          [.emit (.writeSector s.curdrive s.cursector s.params[0] (sideNamed s.drvout) Config.density)] } := by
  rw [← side_eq]; rfl

/-- The request of a Read sector and of a Verify (R193, R195). -/
theorem readRequest_eq (s : State) :
    readRequest s =
      { s with
        trace := s.trace ++
          [.emit (.readSector s.curdrive s.cursector s.params[0] (sideNamed s.drvout) Config.density)] } := by
  rw [← side_eq]; rfl

/-- The request of a Read ID (R196). -/
theorem addressRequest_eq (s : State) :
    addressRequest s =
      { s with trace := s.trace ++ [.emit (.readAddress s.curdrive s.params[0] (sideNamed s.drvout) Config.density)] } := by
  rw [← side_eq]; rfl

/-- The request of a Format, with data-ready (R221, R222). -/
theorem formatRequest_eq (s : State) :
    formatRequest s =
      { s with
        status := 0x8C
        trace := s.trace ++
          [.emit (.format s.curdrive s.params[0] (sideNamed s.drvout) (Config.formatFill s.params))] } := by
  rw [← side_eq]; rfl

/-- What a rule writes in the trace stands after the line of its event (R108). -/
theorem take_trace_append (e : Event) (rest : List Event) (s : State) (ls : List Line) :
    (s.take e rest).trace ++ ls = s.trace ++ .event e :: ls :=
  List.append_assoc ..

/-! ## The timer callback -/

/-- The state an arm of the timer callback starts from. -/
def State.atCallback (rest : List Event) (s : State) : State := { s.take .timerCallback rest with timer := 0 }

/-- The callback of a sector command: the first request, the end of the operation, or the next request (R192, R193, R195,
R196). -/
theorem step_of_sectorArm (request reload : State → State) (s : State) (rest : List Event)
    (hin : s.inbox = .timerCallback :: rest) (ht : 0 < s.timer)
    (harm : ∀ u : State, u.command = s.command → timerCallback u = sectorArm request reload { u with timer := 0 }) :
    (s.phase = .zero → step s = .next (request (phaseZeroEntry (s.atCallback rest)))) ∧
    (s.phase = .one → s.sectorsleft - 1 = 0 → step s = .next { s with
      inbox := rest
      timer := 0
      sectorsleft := 0
      status := 0x18
      result := if s.deletedLatch then 0x20 else 0x00
      deletedLatch := false
      spindown := some (s.unloadRevs * Config.revCycles)
      trace := s.trace ++ [.event .timerCallback] }) ∧
    (s.phase = .one → s.sectorsleft - 1 ≠ 0 → step s = .next (request (reload
      { s.atCallback rest with sectorsleft := s.sectorsleft - 1, cursector := s.cursector + 1 }))) := by
  have hstep : step s = .next (sectorArm request reload (s.atCallback rest)) := by
    rw [step_timerCallback s rest hin ht, harm (s.take .timerCallback rest) rfl]
    rfl
  have hphase : (s.atCallback rest).phase = s.phase := rfl
  have hcount : (s.atCallback rest).sectorsleft = s.sectorsleft := rfl
  rw [hstep]
  rcases sectorArm_cases request reload (s.atCallback rest) with ⟨hp, e⟩ | ⟨hp, hc, e⟩ | ⟨hp, hc, e⟩ <;>
    rw [hphase] at hp <;> rw [e]
  · refine ⟨fun _ => rfl, fun h => ?_, fun h => ?_⟩ <;> exact absurd (hp.symm.trans h) (by decide)
  · refine ⟨fun h => absurd (hp.symm.trans h) (by decide), fun _ _ => ?_, fun _ h => absurd hc h⟩
    rw [hc]; rfl
  · exact ⟨fun h => absurd (hp.symm.trans h) (by decide), fun _ h => absurd h hc, fun _ _ => rfl⟩

/-- Settles O25. -/
theorem writeSectorCallback : Obligations.WriteSectorCallback := by
  intro s rest hin ht hc
  obtain ⟨hfirst, hlast, hnext⟩ := step_of_sectorArm writeRequest id s rest hin ht
    fun u hu => timerCallback_writeSector u (hu.trans hc)
  refine ⟨fun hz => ?_, hlast, fun ho hn => ?_⟩
  · rw [hfirst hz, writeRequest_eq]
    simp [State.atCallback, State.take]
  · rw [hnext ho hn, writeRequest_eq]
    simp [State.atCallback, State.take]

/-- Settles O26. -/
theorem readSectorCallback : Obligations.ReadSectorCallback := by
  intro s rest hin ht hc
  obtain ⟨hfirst, hlast, hnext⟩ := step_of_sectorArm readRequest _ s rest hin ht
    fun u hu => timerCallback_readSector u (hu.trans hc)
  refine ⟨fun hz => ?_, hlast, fun ho hn => ?_⟩
  · rw [hfirst hz, readRequest_eq]
    simp [State.atCallback, State.take]
  · rw [hnext ho hn, readRequest_eq, sectorLength_eq]
    simp [State.atCallback, State.take]

/-- Settles O27. -/
theorem verifyCallback : Obligations.VerifyCallback := by
  intro s rest hin ht hc
  obtain ⟨hfirst, hlast, hnext⟩ := step_of_sectorArm readRequest id s rest hin ht
    fun u hu => timerCallback_verify u (hu.trans hc)
  refine ⟨fun hz => ?_, hlast, fun ho hn => ?_⟩
  · rw [hfirst hz, readRequest_eq]
    simp [State.atCallback, State.take]
  · rw [hnext ho hn, readRequest_eq]
    simp [State.atCallback, State.take]

/-- Settles O28. -/
theorem readIdCallback : Obligations.ReadIdCallback := by
  intro s rest hin ht hc
  obtain ⟨hfirst, hlast, hnext⟩ := step_of_sectorArm addressRequest _ s rest hin ht
    fun u hu => timerCallback_readId u (hu.trans hc)
  refine ⟨fun hz => ?_, hlast, fun ho hn => ?_⟩
  · rw [hfirst hz, addressRequest_eq]
    simp [State.atCallback, State.take]
  · rw [hnext ho hn, addressRequest_eq]
    simp [State.atCallback, State.take]

/-- Settles O29, by the phase. -/
theorem formatCallback : Obligations.FormatCallback := by
  intro s rest hin ht hc
  have hstep : step s = .next (formatArm (s.atCallback rest)) := by
    rw [step_timerCallback s rest hin ht, timerCallback_format (s.take .timerCallback rest) hc]
    rfl
  constructor
  · intro hz
    have harm : formatArm (s.atCallback rest) = formatRequest (phaseZeroEntry (s.atCallback rest)) := by
      simp [formatArm, State.atCallback, State.take, hz]
    rw [hstep, harm, formatRequest_eq]
    simp [State.atCallback, State.take]
  · intro ho
    have harm : formatArm (s.atCallback rest) = terminal (s.atCallback rest) := by
      simp [formatArm, State.atCallback, State.take, ho]
    rw [hstep, harm]
    rfl

/-- Settles O24. -/
theorem seekCompletes : Obligations.SeekCompletes := by
  intro s rest hin ht hc
  rw [step_timerCallback s rest hin ht, timerCallback_seek (s.take .timerCallback rest) hc, seekDone_eq]
  rfl

/-- Settles O30: none of the arms applies. -/
theorem callbackOfOtherCommandsIsIdle : Obligations.CallbackOfOtherCommandsIsIdle := by
  intro s rest hin ht hc
  have hnot (c : Byte) (hmem : c ∈ ([0x0B, 0x13, 0x1F, 0x1B, 0x23, 0x29] : List Byte)) : s.command ≠ c :=
    fun e => hc (e ▸ hmem)
  have hother : timerCallback (s.take .timerCallback rest) = { s.take .timerCallback rest with timer := 0 } := by
    rcases timerCallback_cases (s.take .timerCallback rest) with
      ⟨h, _⟩ | ⟨h, _⟩ | ⟨h, _⟩ | ⟨h, _⟩ | ⟨h, _⟩ | ⟨h, _⟩ | ⟨_, e⟩
    case inr.inr.inr.inr.inr.inr => exact e
    all_goals exact absurd h (hnot _ (by decide))
  rw [step_timerCallback s rest hin ht, hother]
  rfl

/-! ## The motor -/

/-- Settles O31. -/
theorem motorOffStopsTheMotor : Obligations.MotorOffStopsTheMotor := by
  intro s rest n hin hspin
  have henabled : enabled .motorOff s = true := by simp [enabled, hspin]
  rw [step_of_enabled s _ rest hin henabled, handle, motorOff_eq, take_trace_append]
  rfl

/-- Settles O32. -/
theorem spinDownClearsTheSelectBits : Obligations.SpinDownClearsTheSelectBits := by
  intro s
  constructor
  · intro hon
    rw [spinDown_eq]
    simp only [if_pos hon]
    rfl
  · intro hoff
    exact if_neg (by simp [hoff])

/-- Settles O33: after a spin-up the motor is on and no spindown is pending. -/
theorem spinUpTwiceIsOnce : Obligations.SpinUpTwiceIsOnce := by
  intro s d e
  rw [spinUp_eq e, spinUp_eq d]
  simp [spinUpLines]

/-! ## Byte transfer and notifications -/

/-- Settles O34. -/
theorem putDataOffersTheByte : Obligations.PutDataOffersTheByte := by
  intro s rest b hin
  rw [step_of_enabled s _ rest hin rfl]
  refine congrArg Host.Outcome.next ?_
  by_cases hc : s.command = 0xFF ∨ s.command = 0x1F
  · rw [if_pos hc]; exact putData_of_ignored b _ hc
  · rw [if_neg hc]; exact putData_of_taken b _ hc

/-- Settles O35. -/
theorem getDataConsumesTheByte : Obligations.GetDataConsumesTheByte := by
  intro s rest isLast hin
  rw [step_of_enabled s _ rest hin rfl, handle]
  constructor
  · intro hn
    rw [getData_of_notWritten isLast (s.take (.getData isLast) rest) hn, take_trace_append]
    rfl
  · intro hc hw
    rw [getData_of_written isLast (s.take (.getData isLast) rest) hc hw, take_trace_append]
    rfl

/-- Settles O36. -/
theorem successArmsTheTimer : Obligations.SuccessArmsTheTimer := by
  intro s rest deleted hin
  rw [step_of_enabled s _ rest hin rfl]
  refine congrArg Host.Outcome.next ?_
  by_cases hc : s.command = 0xFF
  · rw [if_pos hc]; exact success_of_reset deleted _ hc
  · rw [if_neg hc]; exact success_of_command deleted _ hc

/-- Settles O37: each of the four is the error completion with its code. -/
theorem errorOutcomesEndTheCommand : Obligations.ErrorOutcomesEndTheCommand := by
  intro s rest deleted hc p hp hin
  simp only [List.mem_cons, List.not_mem_nil, or_false] at hp
  rcases hp with rfl | rfl | rfl | rfl <;>
  · rw [step_of_enabled s _ rest hin rfl]
    exact congrArg Host.Outcome.next (errorOutcome_of_command _ _ hc)

/-- Settles O38, call by call. -/
theorem lateEventsAreIgnored : Obligations.LateEventsAreIgnored := by
  intro s rest b flag hc
  constructor
  · intro e he hin
    simp only [List.mem_cons, List.not_mem_nil, or_false] at he
    rcases he with rfl | rfl | rfl | rfl | rfl | rfl <;> rw [step_of_enabled s _ rest hin rfl]
    · exact congrArg Host.Outcome.next (putData_of_ignored b _ (.inl hc))
    · exact congrArg Host.Outcome.next (success_of_reset flag _ hc)
    · exact congrArg Host.Outcome.next (errorOutcome_of_reset _ _ hc)
    · exact congrArg Host.Outcome.next (errorOutcome_of_reset _ _ hc)
    · exact congrArg Host.Outcome.next (errorOutcome_of_reset _ _ hc)
    · exact congrArg Host.Outcome.next (errorOutcome_of_reset _ _ hc)
  · intro hin
    exact (getDataConsumesTheByte s rest flag hin).1 (.inl hc)

/-! ## Reset and power-on -/

/-- Settles O39. -/
theorem powerOnGivesTheResetValues : Obligations.PowerOnGivesTheResetValues := by
  intro s rest hin htrace
  have henabled : enabled .powerOn s = true := (nothingYet_iff s).mpr htrace
  rw [step_of_enabled s _ rest hin henabled]
  simp [handle, powerOn, State.take, State.reset, htrace]

/-- Settles O40: a power-on needs an empty trace, and a step that handles an event leaves a line. -/
theorem powerOnComesOnceAndFirst : Obligations.PowerOnComesOnceAndFirst := by
  intro s t e rest hin ht
  constructor
  · rintro rfl
    rcases step_cases s t ht with ⟨hnil, _⟩ | ⟨e', rest', hcons, hen, _⟩
    · rw [hin] at hnil; cases hnil
    · rw [hin] at hcons; cases hcons
      exact (nothingYet_iff s).mp hen
  · intro later
    obtain ⟨ls, hls⟩ := step_traceExtends s t e rest hin ht
    have hdisabled : enabled .powerOn { t with inbox := .powerOn :: later } = false := by
      simp [enabled, nothingYet, ← hls]
    simp only [step, hdisabled]
    rfl

/-- Settles O41. -/
theorem resetStateHasTheResetValues : Obligations.ResetStateHasTheResetValues := rfl

end Sys2Proof.Machine

/-! PROOFS of the decoder and the step (20_memory.md, 30_encoding.md): the decoder against the encoder, the arity table and
the port window, and which events a step refuses. -/

namespace Sys2Proof

/-! ## Encoding what was decoded -/

/-- A command instruction has no operand that could be ill formed (R90, R95). -/
theorem wellFormed_of_encode_command (i : Instr) (bytes : List Byte) (h : encode i = .command bytes) :
    wellFormed i = true := by
  cases i <;> cases h <;> rfl

/-- A host read decodes to a well-formed instruction that is encoded as the read (R60, R103). -/
theorem encode_decodeRead (addr : Nat) : encode (decodeRead addr) = .read addr ∧ wellFormed (decodeRead addr) = true := by
  unfold decodeRead
  split <;> next h => exact ⟨rfl, beq_iff_eq.mpr h⟩

/-- A host write decodes to a well-formed instruction that is encoded as the write (R60, R103). -/
theorem encode_decodeWrite (addr : Nat) (val : Byte) :
    encode (decodeWrite addr val) = .write addr val ∧ wellFormed (decodeWrite addr val) = true := by
  unfold decodeWrite
  split <;> next h => exact ⟨rfl, beq_iff_eq.mpr h⟩

/-- A host command that decodes is what its row reads from its bytes, with none left over. -/
theorem read_of_decode_command (bytes : List Byte) (i : Instr) (h : decode (.command bytes) = .ok i) :
    ∃ val ps, bytes = val :: ps ∧
      (commandRow (opcodeField val)).read (sel1Field val) (sel0Field val) (opcodeField val) ps = .ok (i, []) := by
  simp only [decode] at h
  split at h
  · next j hj =>
    cases h
    match bytes with
    | [] => cases hj
    | val :: ps => exact ⟨val, ps, rfl, hj⟩
  · cases h
  · cases h

/-- Settles O43, by the form of the host action. -/
theorem encodeOfDecode : Obligations.EncodeOfDecode := by
  intro a i h
  cases a with
  | read addr => cases h; exact encode_decodeRead addr
  | write addr val => cases h; exact encode_decodeWrite addr val
  | command bytes =>
    obtain ⟨val, ps, rfl, hread⟩ := read_of_decode_command bytes i h
    have hencode : encode i = .command (val :: ps) := by
      rw [CommandRow.encode_of_read _ _ (commandRow_encodes _) _ _ ps i hread, commandByte_fields]
    exact ⟨hencode, wellFormed_of_encode_command i _ hencode⟩

/-- Settles O44. -/
theorem sampleWordsDecode : Obligations.SampleWordsDecode := by
  unfold Obligations.SampleWordsDecode
  decide

/-- Settles O45: the decoder answers an instruction exactly in the first of its three cases. -/
theorem commandLengthIsKnownFromTheOpcode : Obligations.CommandLengthIsKnownFromTheOpcode := by
  intro val ps
  change _ ↔ ps.length = arity (normalisedOpcode val)
  rcases decode_command val ps with ⟨hlen, hok⟩ | ⟨hlen, herr⟩ | ⟨hlen, herr⟩
  · exact ⟨fun _ => hlen, fun _ => hok⟩
  · simp only [herr, reduceCtorEq, exists_false, false_iff]; omega
  · simp only [herr, reduceCtorEq, exists_false, false_iff]; omega

/-! ## Table words -/

/-- A row reads the same instruction from the bytes it takes alone. -/
theorem CommandRow.read_take (row : CommandRow) (sel1 sel0 : Bool) (opc : Opcode) (ps : List Byte) (i : Instr)
    (rest : List Byte) (h : row.read sel1 sel0 opc ps = .ok (i, rest)) :
    row.read sel1 sel0 opc (ps.take row.size) = .ok (i, []) := by
  cases row <;>
    rcases ps with _ | ⟨p0, _ | ⟨p1, _ | ⟨p2, _ | ⟨p3, _ | ⟨p4, ps⟩⟩⟩⟩⟩ <;>
    simp_all [CommandRow.read, CommandRow.size]

/-- The bytes of a table word are its first byte and five more. -/
theorem tableBytes_eq (nbits w : Nat) :
    ∃ ps, tableBytes nbits w = BitVec.ofNat 8 (w % 2 ^ nbits) :: ps ∧ ps.length = 5 :=
  ⟨_, rfl, rfl⟩

/-- A table word always starts with one whole command, and the host's command of its bytes decodes to the same
instruction. -/
theorem decodeTableWord_eq (nbits w : Nat) :
    ∃ i, decodeTableWord nbits w = some i ∧ decode (.command (tableCommand nbits w)) = .ok i := by
  obtain ⟨ps, hbytes, hlen⟩ := tableBytes_eq nbits w
  rw [decodeTableWord, tableCommand, hbytes]
  generalize BitVec.ofNat 8 (w % 2 ^ nbits) = val
  have hsize := commandRow_size val
  have hfit : (commandRow (opcodeField val)).size ≤ ps.length := by
    rw [hsize, hlen]; exact arity_le _
  obtain ⟨i, hi⟩ := CommandRow.read_ok _ (sel1Field val) (sel0Field val) (opcodeField val) ps hfit
  refine ⟨i, by simp [decodeCommand, hi], ?_⟩
  have htake := CommandRow.read_take _ _ _ _ _ _ _ hi
  rw [commandLength, Nat.add_comm, List.take_succ_cons, ← hsize]
  simp [decode, decodeCommand, htake]

end Sys2Proof

namespace Sys2Proof.Machine

/-! ## The step on a host action -/

/-- Settles O46: the address has done its work once the port is known. -/
theorem portWindowRepeatsEveryEightAddresses : Obligations.PortWindowRepeatsEveryEightAddresses := by
  intro a b val s h
  have hport : portOf a = portOf b := Fin.ext h
  constructor
  · unfold decodeRead
    rw [hport]
    split <;> rfl
  · unfold decodeWrite
    rw [hport]
    split <;> rfl

/-- Settles O47. -/
theorem stepRunsTheDecodedInstruction : Obligations.StepRunsTheDecodedInstruction := by
  intro s a i rest hin hi
  rw [step_of_enabled s _ rest hin rfl, handle, hi]
  rfl

/-- Settles O48. -/
theorem fetchWordRunsNext : Obligations.FetchWordRunsNext := by
  intro s nbits w
  obtain ⟨i, hword, hcommand⟩ := decodeTableWord_eq nbits w
  exact ⟨i, hword, stepRunsTheDecodedInstruction (s.withFetchWord nbits w) _ i s.inbox rfl hcommand⟩

/-- Every instruction that the decoder answers has a next state. -/
theorem exec_of_decode (a : HostAction) (i : Instr) (s : State) (h : decode a = .ok i) : ∃ t, exec i s = .next t := by
  cases a with
  | read addr =>
    cases h
    rcases exec_decodeRead addr s with e | e | e | e <;> exact ⟨_, e⟩
  | write addr val =>
    cases h
    rcases exec_decodeWrite addr val s with ⟨_, e⟩ | ⟨_, e⟩ | ⟨_, e⟩ | ⟨_, e⟩ | ⟨_, e⟩ <;> exact ⟨_, e⟩
  | command bytes =>
    obtain ⟨val, ps, rfl, _⟩ := read_of_decode_command bytes i h
    exact ⟨_, exec_of_decode_command val ps i s h⟩

/-- The rule of an event refuses only a host command whose bytes are not one command (log 12). -/
theorem handle_refused_iff (e : Event) (s : State) (r : Refusal) : handle e s = .refused r ↔
    ∃ (bytes : List Byte) (reason : DecodeError), e = .host (.command bytes) ∧
      decode (.command bytes) = .error reason ∧ r = .notOneCommand reason := by
  constructor
  · intro h
    cases e with
    | host a =>
      simp only [handle] at h
      split at h
      · next i hi =>
        obtain ⟨t, ht⟩ := exec_of_decode a i s hi
        rw [ht] at h; cases h
      · next reason hreason =>
        cases h
        match a with
        | .read addr => cases hreason
        | .write addr val => cases hreason
        | .command bytes => exact ⟨bytes, reason, rfl, hreason, rfl⟩
    | _ => cases h
  · rintro ⟨bytes, reason, rfl, hreason, rfl⟩
    simp only [handle, hreason]

/-- A step is refused for an event that is not enabled, or by the rule of one that is. -/
theorem step_refused_iff (s : State) (r : Refusal) : step s = .refused r ↔
    ∃ e rest, s.inbox = e :: rest ∧
      ((enabled e s = false ∧ r = .notEnabled e) ∨ (enabled e s = true ∧ handle e (s.take e rest) = .refused r)) := by
  cases hin : s.inbox with
  | nil => simp [step, hin]
  | cons e rest =>
    have hstep : step s = if enabled e s then handle e (s.take e rest) else .refused (.notEnabled e) := by
      simp only [step, hin]
    rw [hstep]
    constructor
    · intro h
      refine ⟨e, rest, rfl, ?_⟩
      split at h
      · next hen => exact .inr ⟨hen, h⟩
      · next hdis => cases h; exact .inl ⟨Bool.eq_false_iff.mpr hdis, rfl⟩
    · rintro ⟨_, _, hcons, ⟨hdis, rfl⟩ | ⟨hen, h⟩⟩ <;> cases hcons
      · exact if_neg (Bool.eq_false_iff.mp hdis)
      · rwa [if_pos hen]

/-- Settles O49. -/
theorem refusalsAreTheEnvironments : Obligations.RefusalsAreTheEnvironments := by
  intro s r
  rw [step_refused_iff]
  refine exists_congr fun e => exists_congr fun rest => and_congr_right fun _ => ?_
  rw [handle_refused_iff, not_enabled_cases]
  constructor
  · rintro (⟨hdis, hr⟩ | ⟨_, hbytes⟩)
    · exact .inl ⟨hr, hdis⟩
    · exact .inr hbytes
  · rintro (⟨hr, hdis⟩ | ⟨bytes, reason, rfl, hreason, hr⟩)
    · exact .inl ⟨hdis, hr⟩
    · exact .inr ⟨rfl, bytes, reason, rfl, hreason, hr⟩

end Sys2Proof.Machine

/-! PROOFS of the rules of the whole machine (10_state.md, 60_exceptions.md section 1): which steps may change the interrupt
line, the timing registers, the track registers, the motor and the deposit flag. For each there is a fact about `Execute()`,
one about the bytes of a command, and one about the events that are no host actions. -/

namespace Sys2Proof.Machine

/-! ## What the statements observe -/

/-- The four timing registers (R35). -/
def timing (s : State) : Nat × Nat × Nat × Nat := (s.stepTime, s.settleTime, s.unloadRevs, s.loadTime)

/-- The timing registers differ when one of the four does. -/
theorem timing_ne {s t : State} (h : t.stepTime ≠ s.stepTime ∨ t.settleTime ≠ s.settleTime ∨
    t.unloadRevs ≠ s.unloadRevs ∨ t.loadTime ≠ s.loadTime) : timing t ≠ timing s := by
  simp only [timing, ne_eq, Prod.mk.injEq, not_and_or]
  exact h

/-- The patterns an operation may write to `status` (R97). -/
def statusPatterns : List Byte := [statusIdle, statusReady, statusTerminal, statusBusy, statusDataReady]

/-- Between two states `status` was left alone or a pattern was written. -/
def WritesPattern (s t : State) : Prop := t.status = s.status ∨ t.status ∈ statusPatterns

theorem WritesPattern.trans {s t u : State} (h : WritesPattern s t) (k : WritesPattern t u) : WritesPattern s u := by
  rcases k with e | hmem
  · exact h.imp e.trans (e ▸ ·)
  · exact .inr hmem

/-- Only two of the patterns assert the line (R270). -/
theorem statusPatterns_irq : ∀ v ∈ statusPatterns, v.getLsbD 3 = true → v = 0x18 ∨ v = 0x8C := by decide

/-- Clearing either group of status bits deasserts the line (R129). -/
theorem irq_clear (v : Byte) :
    (v &&& ~~~resultGroup).getLsbD 3 = false ∧ (v &&& ~~~dataGroup).getLsbD 3 = false := by
  revert v; decide

/-! ## Execute and the bytes of a command -/

/-- What `Execute()` may do to the registers observed here: Specify under its key writes the timing registers, Write special
register the tracks; the motor is never stopped, and `status` takes patterns only. -/
theorem execute_effects (s : State) :
    (timing (execute s) = timing s ∨ (s.command = 0x35 ∧ s.params[0] = 0x0D)) ∧
    ((execute s).curtrack = s.curtrack ∨ s.command = 0x3A) ∧
    (s.motoron = true → (execute s).motoron = true) ∧ WritesPattern s (execute s) := by
  have hidle : statusIdle ∈ statusPatterns := by decide
  have hready : statusReady ∈ statusPatterns := by decide
  have hterminal : statusTerminal ∈ statusPatterns := by decide
  rcases execute_cases s with ⟨hc, e⟩ | ⟨_, e⟩ | ⟨hc, e⟩ | ⟨_, e⟩ | ⟨_, e⟩ | ⟨_, e⟩ | ⟨_, e⟩ <;> rw [e]
  · rw [specify_eq]
    refine ⟨?_, .inl rfl, id, .inr hidle⟩
    by_cases hkey : s.params[0] = 0x0D
    · exact .inr ⟨hc, hkey⟩
    · exact .inl (by simp only [timing, if_neg hkey])
  · rcases readSpecial_cases s with ⟨v, r⟩ | r <;> rw [r]
    · exact ⟨.inl rfl, .inl rfl, id, .inr hready⟩
    · exact ⟨.inl rfl, .inl rfl, id, .inr hterminal⟩
  · rcases writeSpecial_cases s with ⟨d, r⟩ | r | r | r <;> rw [r]
    · exact ⟨.inl rfl, .inr hc, id, .inr hidle⟩
    · exact ⟨.inl rfl, .inr hc, id, .inr hidle⟩
    · exact ⟨.inl rfl, .inr hc, id, .inr hidle⟩
    · exact ⟨.inl rfl, .inr hc, id, .inr hterminal⟩
  · rw [seekStart_eq]; exact ⟨.inl rfl, .inl rfl, fun _ => rfl, .inl rfl⟩
  · rw [sectorStart_eq]; exact ⟨.inl rfl, .inl rfl, fun _ => rfl, .inl rfl⟩
  · rw [formatStart_eq]; exact ⟨.inl rfl, .inl rfl, fun _ => rfl, .inl rfl⟩
  · exact ⟨.inl rfl, .inl rfl, id, .inr hterminal⟩

/-- A port-1 write stops no motor and writes patterns only to `status`. -/
theorem collectParameter_effects (val : Byte) (s : State) :
    (s.motoron = true → (collectParameter val s).motoron = true) ∧ WritesPattern s (collectParameter val s) := by
  obtain ⟨ps, n, hs⟩ := storeParam_keeps val s
  rcases collectParameter_cases val s with ⟨_, e⟩ | ⟨_, e⟩ <;> rw [e]
  · obtain ⟨_, _, hmotor, hstatus⟩ := execute_effects (storeParam val s)
    rw [hs] at hmotor hstatus ⊢
    exact ⟨hmotor, hstatus⟩
  · rw [hs]
    exact ⟨id, .inl rfl⟩

/-- A port-0 write writes patterns only to `status`. -/
theorem writeCommand_writesPattern (val : Byte) (s : State) : WritesPattern s (writeCommand val s) := by
  cases hb : busy s with
  | true => rw [writeCommand_of_busy val s hb]; exact .inl rfl
  | false =>
    rw [writeCommand_of_idle val s hb]
    refine .inr ?_
    rcases acceptCommand_cases val s with ⟨_, e⟩ | ⟨_, _, e⟩ | ⟨_, _, e⟩ <;> rw [e]
    · exact show statusBusy ∈ statusPatterns by decide
    · exact show statusReady ∈ statusPatterns by decide
    · exact show statusTerminal ∈ statusPatterns by decide

/-! ## Timing and tracks along the bytes of a command -/

/-- Since an earlier state the timing registers are unchanged, or a Specify with its key has executed: its first parameter is
in its slot, and no later byte of the command goes there. -/
def SpecifiedSince (s u : State) : Prop :=
  timing u = timing s ∨ (u.command = 0x35 ∧ u.params[0] = 0x0D ∧ 0 < u.paramnum)

/-- Storing a byte keeps this: the first slot is written only while it is the next one. -/
theorem SpecifiedSince.storeParam {s u : State} (h : SpecifiedSince s u) (val : Byte) :
    SpecifiedSince s (storeParam val u) ∧ 0 < (storeParam val u).paramnum := by
  by_cases hroom : u.paramnum < 5
  · rw [storeParam_of_lt val u hroom]
    refine ⟨h.imp_right ?_, Nat.succ_pos _⟩
    rintro ⟨hc, hkey, hpos⟩
    refine ⟨hc, ?_, Nat.succ_pos _⟩
    rwa [Vector.getElem_set_ne _ _ (Nat.ne_of_gt hpos)]
  · rw [storeParam_of_ge val u (Nat.not_lt.mp hroom)]
    exact ⟨h, by omega⟩

theorem SpecifiedSince.collectParameter {s u : State} (h : SpecifiedSince s u) (val : Byte) :
    SpecifiedSince s (collectParameter val u) := by
  obtain ⟨hstore, hpos⟩ := h.storeParam val
  rcases collectParameter_cases val u with ⟨_, e⟩ | ⟨_, e⟩ <;> rw [e]
  · obtain ⟨_, hcommand, hparams, hnum, _, _, _, _, _⟩ := execute_keeps (Machine.storeParam val u)
    obtain ⟨htiming, _, _, _⟩ := execute_effects (Machine.storeParam val u)
    rw [SpecifiedSince, hcommand, hparams, hnum]
    rcases htiming with htiming | ⟨hc, hkey⟩
    · rwa [htiming]
    · exact .inr ⟨hc, hkey, hpos⟩
  · exact hstore

theorem specifiedSince_writeCommand (val : Byte) (s : State) : SpecifiedSince s (writeCommand val s) := by
  obtain ⟨_, _, _, _, _, _, _, _, _, hunload, hstep, hsettle, hload, _, _⟩ := writeCommand_keeps val s
  exact .inl (by rw [timing, timing, hunload, hstep, hsettle, hload])

/-- Since an earlier state the track registers are unchanged, or the command in hand is Write special register. -/
def TracksWrittenSince (s u : State) : Prop := u.curtrack = s.curtrack ∨ u.command = 0x3A

theorem TracksWrittenSince.collectParameter {s u : State} (h : TracksWrittenSince s u) (val : Byte) :
    TracksWrittenSince s (collectParameter val u) := by
  obtain ⟨_, hcommand, _, _, _, _, _⟩ := collectParameter_keeps val u
  obtain ⟨ps, n, hs⟩ := storeParam_keeps val u
  have htracks : (Machine.collectParameter val u).curtrack = u.curtrack ∨ u.command = 0x3A := by
    rcases collectParameter_cases val u with ⟨_, e⟩ | ⟨_, e⟩ <;> rw [e]
    · obtain ⟨_, htracks, _, _⟩ := execute_effects (storeParam val u)
      rw [hs] at htracks ⊢
      exact htracks
    · exact .inl (by rw [hs])
  rw [TracksWrittenSince, hcommand]
  rcases htracks with e | hc
  · rwa [e]
  · exact .inr hc

theorem tracksWrittenSince_writeCommand (val : Byte) (s : State) : TracksWrittenSince s (writeCommand val s) := by
  obtain ⟨_, _, _, _, htracks, _, _, _, _, _, _, _, _, _, _⟩ := writeCommand_keeps val s
  exact .inl htracks

/-- What the bytes of a command may do to the registers observed here: the timing registers and the tracks change only by
the two commands that write them, the motor does not stop, no byte is deposited or taken, and `status` takes patterns. -/
structure CommandEffects (s t : State) : Prop where
  specified : SpecifiedSince s t
  tracks : TracksWrittenSince s t
  motor : s.motoron = true → t.motoron = true
  written_eq : t.written = s.written
  status_pattern : WritesPattern s t

theorem CommandEffects.refl (s : State) : CommandEffects s s := ⟨.inl rfl, .inl rfl, id, rfl, .inl rfl⟩

theorem CommandEffects.collectParameter {s u : State} (h : CommandEffects s u) (val : Byte) :
    CommandEffects s (collectParameter val u) := by
  obtain ⟨_, _, _, _, hwritten, _, _⟩ := collectParameter_keeps val u
  obtain ⟨hmotor, hstatus⟩ := collectParameter_effects val u
  exact ⟨h.specified.collectParameter val, h.tracks.collectParameter val, hmotor ∘ h.motor, hwritten.trans h.written_eq,
    h.status_pattern.trans hstatus⟩

theorem writeCommand_effects (val : Byte) (s : State) : CommandEffects s (writeCommand val s) := by
  obtain ⟨_, _, _, hwritten, _, _, _, _, _, _, _, _, _, hmotor, _⟩ := writeCommand_keeps val s
  exact ⟨specifiedSince_writeCommand val s, tracksWrittenSince_writeCommand val s, hmotor.trans, hwritten,
    writeCommand_writesPattern val s⟩

/-- A whole command, issued in any state. -/
theorem issueCommand_effects (val : Byte) (ps : List Byte) (s : State) : CommandEffects s (issueCommand val ps s) :=
  issueCommand_induct (CommandEffects s) (fun v _ h => h.collectParameter v) val ps s (writeCommand_effects val s)

/-! ## The events that are no host actions -/

/-- Of the registers observed here only `status` changed, by a pattern. -/
structure ChangesStatusOnly (s t : State) : Prop where
  timing_eq : timing t = timing s
  motoron_eq : t.motoron = s.motoron
  written_eq : t.written = s.written
  curtrack_eq : t.curtrack = s.curtrack
  status_pattern : WritesPattern s t

theorem ChangesStatusOnly.of_kept {s t : State} (h : timing t = timing s) (hmotor : t.motoron = s.motoron)
    (hwritten : t.written = s.written) (htracks : t.curtrack = s.curtrack) (hstatus : t.status = s.status) :
    ChangesStatusOnly s t := ⟨h, hmotor, hwritten, htracks, .inl hstatus⟩

/-- What an event that is neither a host action nor power-on may do to the registers observed here: only the motor-off event
stops the motor, only `get_data` clears the deposit flag, only the timer callback writes a track. -/
structure EventEffects (e : Event) (s t : State) : Prop where
  timing_eq : timing t = timing s
  motor : t.motoron = s.motoron ∨ e = .motorOff
  deposit : t.written = s.written ∨ (∃ isLast, e = .getData isLast) ∧ t.written = false
  tracks : t.curtrack = s.curtrack ∨ e = .timerCallback ∧ t.curtrack = s.curtrack.set s.curdrive s.params[0].toNat
  status_pattern : WritesPattern s t

theorem ChangesStatusOnly.event {s t : State} (h : ChangesStatusOnly s t) (e : Event) : EventEffects e s t :=
  ⟨h.timing_eq, .inl h.motoron_eq, .inl h.written_eq, .inl h.curtrack_eq, h.status_pattern⟩

/-- What follows a track update inside one rule. -/
theorem EventEffects.trans_status {e : Event} {s t u : State} (h : EventEffects e s t) (k : ChangesStatusOnly t u) :
    EventEffects e s u where
  timing_eq := k.timing_eq.trans h.timing_eq
  motor := h.motor.imp_left k.motoron_eq.trans
  deposit := h.deposit.imp k.written_eq.trans (And.imp_right k.written_eq.trans)
  tracks := h.tracks.imp k.curtrack_eq.trans (And.imp_right k.curtrack_eq.trans)
  status_pattern := h.status_pattern.trans k.status_pattern

theorem statusTerminal_pattern : statusTerminal ∈ statusPatterns := by decide
theorem statusDataReady_pattern : statusDataReady ∈ statusPatterns := by decide

theorem sectorArm_effects {request reload : State → State} (hreq : ∀ u, ChangesStatusOnly u (request u))
    (hrel : ∀ u, ChangesStatusOnly u (reload u)) (s : State) :
    EventEffects .timerCallback s (sectorArm request reload { s with timer := 0 }) := by
  rcases sectorArm_cases request reload { s with timer := 0 } with ⟨_, e⟩ | ⟨_, _, e⟩ | ⟨_, _, e⟩ <;> rw [e]
  · have hentry : EventEffects .timerCallback s (phaseZeroEntry { s with timer := 0 }) :=
      ⟨rfl, .inl rfl, .inl rfl, .inr ⟨rfl, rfl⟩, .inl rfl⟩
    exact hentry.trans_status (hreq _)
  · exact ⟨rfl, .inl rfl, .inl rfl, .inl rfl, .inr statusTerminal_pattern⟩
  · have hcount : EventEffects .timerCallback s
        { s with timer := 0, sectorsleft := s.sectorsleft - 1, cursector := s.cursector + 1 } :=
      ⟨rfl, .inl rfl, .inl rfl, .inl rfl, .inl rfl⟩
    exact (hcount.trans_status (hrel _)).trans_status (hreq _)

theorem timerCallback_effects (s : State) : EventEffects .timerCallback s (timerCallback s) := by
  have hwrite (u : State) : ChangesStatusOnly u (writeRequest u) := ⟨rfl, rfl, rfl, rfl, .inr statusDataReady_pattern⟩
  have hread (u : State) : ChangesStatusOnly u (readRequest u) := .of_kept rfl rfl rfl rfl rfl
  have haddress (u : State) : ChangesStatusOnly u (addressRequest u) := .of_kept rfl rfl rfl rfl rfl
  have hnothing (u : State) : ChangesStatusOnly u u := .of_kept rfl rfl rfl rfl rfl
  have hbytes (f : State → Nat) (u : State) : ChangesStatusOnly u { u with bytesleft := f u } :=
    .of_kept rfl rfl rfl rfl rfl
  have htimer : EventEffects .timerCallback s { s with timer := 0 } := ⟨rfl, .inl rfl, .inl rfl, .inl rfl, .inl rfl⟩
  rcases timerCallback_cases s with ⟨_, e⟩ | ⟨_, e⟩ | ⟨_, e⟩ | ⟨_, e⟩ | ⟨_, e⟩ | ⟨_, e⟩ | ⟨_, e⟩ <;> rw [e]
  · exact sectorArm_effects hwrite hnothing s
  · exact sectorArm_effects hread (hbytes fun u => sectorLength u.params[2]) s
  · exact sectorArm_effects hread hnothing s
  · exact sectorArm_effects haddress (hbytes fun _ => 4) s
  · unfold formatArm
    split
    · exact ⟨rfl, .inl rfl, .inl rfl, .inr ⟨rfl, rfl⟩, .inr statusDataReady_pattern⟩
    · exact ⟨rfl, .inl rfl, .inl rfl, .inl rfl, .inr statusTerminal_pattern⟩
  · exact ⟨rfl, .inl rfl, .inl rfl, .inr ⟨rfl, rfl⟩, .inr statusTerminal_pattern⟩
  · exact htimer

theorem putData_changesStatusOnly (b : Byte) (s : State) : ChangesStatusOnly s (putData b s) := by
  by_cases hc : s.command = 0xFF ∨ s.command = 0x1F
  · rw [putData_of_ignored b s hc]; exact .of_kept rfl rfl rfl rfl rfl
  · rw [putData_of_taken b s hc]; exact ⟨rfl, rfl, rfl, rfl, .inr statusDataReady_pattern⟩

theorem success_changesStatusOnly (deleted : Bool) (s : State) : ChangesStatusOnly s (success deleted s) := by
  by_cases hc : s.command = 0xFF
  · rw [success_of_reset deleted s hc]; exact .of_kept rfl rfl rfl rfl rfl
  · rw [success_of_command deleted s hc]; exact .of_kept rfl rfl rfl rfl rfl

theorem errorOutcome_changesStatusOnly (code : Byte) (s : State) : ChangesStatusOnly s (errorOutcome code s) := by
  by_cases hc : s.command = 0xFF
  · rw [errorOutcome_of_reset code s hc]; exact .of_kept rfl rfl rfl rfl rfl
  · rw [errorOutcome_of_command code s hc]; exact ⟨rfl, rfl, rfl, rfl, .inr statusTerminal_pattern⟩

theorem getData_effects (isLast : Bool) (s : State) : EventEffects (.getData isLast) s (getData isLast s) := by
  by_cases hn : s.command = 0xFF ∨ s.written = false
  · rw [getData_of_notWritten isLast s hn]
    exact ⟨rfl, .inl rfl, .inl rfl, .inl rfl, .inl rfl⟩
  · obtain ⟨hc, hw⟩ := not_or.mp hn
    rw [getData_of_written isLast s hc (Bool.eq_true_of_not_eq_false hw)]
    refine ⟨rfl, .inl rfl, .inr ⟨⟨isLast, rfl⟩, rfl⟩, .inl rfl, ?_⟩
    cases isLast
    · exact .inr statusDataReady_pattern
    · exact .inl rfl

theorem motorOff_effects (s : State) : EventEffects .motorOff s (motorOff s) := by
  rw [motorOff_eq]
  exact ⟨rfl, .inr rfl, .inl rfl, .inl rfl, .inl rfl⟩

/-- The effects of every event that is neither a host action nor power-on. -/
theorem handle_effects (e : Event) (s t : State) (hhost : isHost e = false) (hpower : e ≠ .powerOn)
    (h : handle e s = .next t) : EventEffects e s t := by
  cases e with
  | powerOn => exact absurd rfl hpower
  | host a => cases hhost
  | timerCallback => cases h; exact timerCallback_effects s
  | motorOff => cases h; exact motorOff_effects s
  | putData b => cases h; exact (putData_changesStatusOnly b s).event _
  | getData isLast => cases h; exact getData_effects isLast s
  | success deleted => cases h; exact (success_changesStatusOnly deleted s).event _
  | notFound => cases h; exact (errorOutcome_changesStatusOnly _ s).event _
  | headerCRC => cases h; exact (errorOutcome_changesStatusOnly _ s).event _
  | dataCRC deleted => cases h; exact (errorOutcome_changesStatusOnly _ s).event _
  | writeProtect => cases h; exact (errorOutcome_changesStatusOnly _ s).event _

/-! ## The host actions -/

/-- What a host action that is no reset may do to the registers observed here: as the bytes of a command, but a byte may be
deposited through port 4, and a group of status bits cleared. -/
structure HostEffects (a : HostAction) (s t : State) : Prop where
  specified : SpecifiedSince s t
  tracks : TracksWrittenSince s t
  motor : s.motoron = true → t.motoron = true
  deposit : t.written = s.written ∨ writesPort 4 (.host a) = true ∧ t.written = true
  status : WritesPattern s t ∨ irq t = false

theorem CommandEffects.host {s t : State} (h : CommandEffects s t) (a : HostAction) : HostEffects a s t :=
  ⟨h.specified, h.tracks, h.motor, .inl h.written_eq, .inl h.status_pattern⟩

/-- Clearing a group of status bits, with or without a line in the trace, touches nothing else observed here. -/
theorem HostEffects.of_cleared {a : HostAction} {s t : State} (h : timing t = timing s) (hmotor : t.motoron = s.motoron)
    (hwritten : t.written = s.written ∨ writesPort 4 (.host a) = true ∧ t.written = true)
    (htracks : t.curtrack = s.curtrack) (hirq : irq t = false) : HostEffects a s t :=
  ⟨.inl h, .inl htracks, hmotor.trans, hwritten, .inr hirq⟩

/-- The effects of every host action that is no reset. -/
theorem handle_host_effects (a : HostAction) (s t : State) (hreset : isReset (.host a) = false)
    (h : handle (.host a) s = .next t) : HostEffects a s t := by
  obtain ⟨hresult, hdata⟩ := irq_clear s.status
  have hreturn (v : Byte) : CommandEffects s (returnByte v s) := ⟨.inl rfl, .inl rfl, id, rfl, .inl rfl⟩
  rcases handle_host_cases a s t h with ⟨_, rfl, rfl | rfl | rfl | rfl⟩ |
    ⟨addr, val, rfl, ⟨_, rfl⟩ | ⟨_, rfl⟩ | ⟨hport, rfl⟩ | ⟨hport, rfl⟩ | ⟨_, rfl⟩⟩ | ⟨val, ps, rfl, _, rfl⟩
  · exact (hreturn _).host _
  · exact .of_cleared rfl rfl (.inl rfl) rfl hresult
  · exact .of_cleared rfl rfl (.inl rfl) rfl hdata
  · exact (hreturn _).host _
  · exact (writeCommand_effects val s).host _
  · exact ((CommandEffects.refl s).collectParameter val).host _
  · have hbit : ¬val.getLsbD 0 = true := by simpa [isReset, hport] using hreset
    rw [if_neg hbit]
    exact (CommandEffects.refl s).host _
  · exact .of_cleared rfl rfl (.inr ⟨beq_iff_eq.mpr hport, rfl⟩) rfl hdata
  · exact (CommandEffects.refl t).host _
  · exact (issueCommand_effects val ps s).host _

/-! ## The resets -/

/-- A reset event is a power-on or a write of the reset register, and its rule is that reset (R310, R311). -/
theorem handle_of_reset (e : Event) (s t : State) (hreset : isReset e = true) (h : handle e s = .next t) :
    (e = .powerOn ∧ t = powerOn s) ∨
    ((∃ addr val, e = .host (.write addr val) ∧ portOf addr = 2) ∧ t = controllerReset s) := by
  match e with
  | .powerOn => cases h; exact .inl ⟨rfl, rfl⟩
  | .host (.write addr val) =>
    obtain ⟨hport, hbit⟩ : portOf addr = 2 ∧ val.getLsbD 0 = true := by simpa [isReset] using hreset
    refine .inr ⟨⟨addr, val, rfl, hport⟩, ?_⟩
    rcases exec_decodeWrite addr val s with ⟨hp, _⟩ | ⟨hp, _⟩ | ⟨_, e⟩ | ⟨hp, _⟩ | ⟨hp, _⟩
    · rw [hport] at hp; cases hp
    · rw [hport] at hp; cases hp
    · rw [if_pos hbit] at e
      exact Host.Outcome.next.inj (h.symm.trans e)
    · rw [hport] at hp; cases hp
    · rw [hport] at hp; exact absurd (by decide) hp

/-! ## The obligations -/

/-- What a step that handles an event can do: reset the block, or have the effects of a host action or of another event. -/
theorem step_effects (s t : State) (e : Event) (rest : List Event) (hin : s.inbox = e :: rest) (h : step s = .next t) :
    (isReset e = true ∧ ((e = .powerOn ∧ t = powerOn (s.take e rest)) ∨
      (∃ addr val, e = .host (.write addr val) ∧ portOf addr = 2) ∧ t = controllerReset (s.take e rest))) ∨
    (isReset e = false ∧ ∃ a, e = .host a ∧ HostEffects a s t) ∨
    (isReset e = false ∧ isHost e = false ∧ EventEffects e s t) := by
  obtain ⟨_, _, hcons, _, he⟩ := (step_cases s t h).resolve_left (by simp [hin])
  rw [hin] at hcons
  cases hcons
  cases hreset : isReset e with
  | true => exact .inl ⟨rfl, handle_of_reset e _ t hreset he⟩
  | false =>
    refine .inr ?_
    cases hhost : isHost e with
    | true =>
      match e with
      | .host a =>
        obtain ⟨hspecified, htracks, hmotor, hdeposit, hstatus⟩ := handle_host_effects a _ t hreset he
        exact .inl ⟨rfl, a, rfl, hspecified, htracks, hmotor, hdeposit, hstatus⟩
    | false =>
      have hpower : e ≠ .powerOn := by rintro rfl; cases hreset
      obtain ⟨htiming, hmotor, hdeposit, htracks, hstatus⟩ := handle_effects e _ t hhost hpower he
      exact .inr ⟨rfl, rfl, htiming, hmotor, hdeposit, htracks, hstatus⟩

theorem irq_of_idle {s : State} (h : s.status = statusIdle) : irq s = false := by rw [irq, h]; decide

/-- A pattern that raises the line is the terminal and error pattern or the data-ready pattern. -/
theorem WritesPattern.status_of_irq {s t : State} (h : WritesPattern s t) (hs : irq s = false) (ht : irq t = true) :
    t.status = 0x18 ∨ t.status = 0x8C := by
  rcases h with e | hmem
  · rw [irq, e, ← irq, hs] at ht; cases ht
  · exact statusPatterns_irq _ hmem ht

/-- Settles O54: an operation leaves `status` alone, writes a pattern, or clears the line. -/
theorem interruptRisesByThreePatterns : Obligations.InterruptRisesByThreePatterns := by
  intro s t h hs ht
  cases hin : s.inbox with
  | nil =>
    obtain ⟨_, rfl⟩ | ⟨_, _, hcons, _⟩ := step_cases s t h
    · rw [hs] at ht; cases ht
    · rw [hin] at hcons; cases hcons
  | cons e rest =>
    rcases step_effects s t e rest hin h with ⟨_, ⟨_, rfl⟩ | ⟨_, rfl⟩⟩ | ⟨_, a, _, ha⟩ | ⟨_, _, he⟩
    · rw [irq_of_idle rfl] at ht; cases ht
    · rw [irq_of_idle rfl] at ht; cases ht
    · rcases ha.status with hpattern | hclear
      · exact hpattern.status_of_irq hs ht
      · rw [hclear] at ht; cases ht
    · exact he.status_pattern.status_of_irq hs ht

/-- Settles O55. -/
theorem timingRegistersChangeOnlyBySpecify : Obligations.TimingRegistersChangeOnlyBySpecify := by
  intro s t e rest hin h hreset hchanged
  rcases step_effects s t e rest hin h with ⟨hr, _⟩ | ⟨_, a, rfl, ha⟩ | ⟨_, _, he⟩
  · rw [hreset] at hr; cases hr
  · obtain ⟨hc, hkey, _⟩ := ha.specified.resolve_left (timing_ne hchanged)
    exact ⟨rfl, hc, hkey⟩
  · exact absurd he.timing_eq (timing_ne hchanged)

/-- Settles O56. -/
theorem tracksChangeOnlyOnCompletion : Obligations.TracksChangeOnlyOnCompletion := by
  intro s t e rest hin h hreset hchanged
  rcases step_effects s t e rest hin h with ⟨hr, _⟩ | ⟨_, a, rfl, ha⟩ | ⟨_, _, he⟩
  · rw [hreset] at hr; cases hr
  · exact .inr ⟨rfl, ha.tracks.resolve_left hchanged⟩
  · exact .inl (he.tracks.resolve_left hchanged)

/-- Settles O57: no rule but spin-down and power-on stops the motor. -/
theorem motorStopsOnlyByMotorOff : Obligations.MotorStopsOnlyByMotorOff := by
  intro s t e rest hin h hpower
  rcases step_effects s t e rest hin h with ⟨_, ⟨hp, _⟩ | ⟨_, rfl⟩⟩ | ⟨hr, a, _, ha⟩ | ⟨hr, _, he⟩
  · exact absurd hp hpower
  · exact ⟨fun hon hoff => absurd (hon.symm.trans hoff) (by decide), fun _ => ⟨rfl, rfl⟩⟩
  · exact ⟨fun hon hoff => absurd ((ha.motor hon).symm.trans hoff) (by decide), fun hreset => by simp [hr] at hreset⟩
  · refine ⟨fun hon hoff => ?_, fun hreset => by simp [hr] at hreset⟩
    exact he.motor.resolve_left fun hkept => absurd (hon.symm.trans (hkept.symm.trans hoff)) (by decide)

/-- Settles O58. -/
theorem depositFlagHasTwoWriters : Obligations.DepositFlagHasTwoWriters := by
  intro s t e rest hin h
  have hclash {p : Prop} {b : Bool} (htrue : b = true) (hfalse : b = false) : p := by rw [htrue] at hfalse; cases hfalse
  rcases step_effects s t e rest hin h with ⟨hr, ht⟩ | ⟨_, a, rfl, ha⟩ | ⟨_, _, he⟩
  · have hcleared : t.written = false := by rcases ht with ⟨_, rfl⟩ | ⟨_, rfl⟩ <;> rfl
    exact ⟨fun _ hset => hclash hset hcleared, fun _ _ => .inl hr⟩
  · rcases ha.deposit with hkept | ⟨hport, hdeposited⟩
    · exact ⟨fun hoff hon => hclash (hkept ▸ hon) hoff, fun hon hoff => hclash hon (hkept ▸ hoff)⟩
    · exact ⟨fun _ _ => hport, fun _ hoff => hclash hdeposited hoff⟩
  · rcases he.deposit with hkept | ⟨hget, htaken⟩
    · exact ⟨fun hoff hon => hclash (hkept ▸ hon) hoff, fun hon hoff => hclash hon (hkept ▸ hoff)⟩
    · exact ⟨fun _ hon => hclash hon htaken, fun _ _ => .inr hget⟩

end Sys2Proof.Machine

/-! PROOFS of the multi-sector operations (R197, R202): the callbacks of the four sector
commands as one, a round of a success and a callback, and the inductions on the number of rounds. -/

namespace Sys2Proof.Machine

/-! ## What a run of callbacks keeps and emits -/

/-- The opcodes of the four sector commands. -/
def sectorOpcodes : List Byte := [0x0B, 0x13, 0x1F, 0x1B]

/-- The request that the sector command in hand makes for a sector (R192, R193, R195, R196). -/
def sectorRequest (s : State) (sector : Nat) : Output :=
  if s.command = 0x0B then .writeSector s.curdrive sector s.params[0] (sideNamed s.drvout) Config.density
  else if s.command = 0x1B then .readAddress s.curdrive s.params[0] (sideNamed s.drvout) Config.density
  else .readSector s.curdrive sector s.params[0] (sideNamed s.drvout) Config.density

/-- The registers a sector operation is set up in are the same: the opcode, the parameters, the drive, `drvout`, the unload
revolutions and the deleted-data latch. -/
structure SameOperation (s t : State) : Prop where
  command_eq : t.command = s.command
  params_eq : t.params = s.params
  curdrive_eq : t.curdrive = s.curdrive
  drvout_eq : t.drvout = s.drvout
  unloadRevs_eq : t.unloadRevs = s.unloadRevs
  deletedLatch_eq : t.deletedLatch = s.deletedLatch

theorem SameOperation.trans {s t u : State} (h : SameOperation s t) (k : SameOperation t u) : SameOperation s u :=
  ⟨k.command_eq.trans h.command_eq, k.params_eq.trans h.params_eq, k.curdrive_eq.trans h.curdrive_eq,
    k.drvout_eq.trans h.drvout_eq, k.unloadRevs_eq.trans h.unloadRevs_eq, k.deletedLatch_eq.trans h.deletedLatch_eq⟩

/-- One operation makes the same requests from all its states. -/
theorem SameOperation.sectorRequest_eq {s t : State} (h : SameOperation s t) (sector : Nat) :
    sectorRequest t sector = sectorRequest s sector := by
  simp only [sectorRequest, h.command_eq, h.params_eq, h.curdrive_eq, h.drvout_eq]

/-- The lines written between two states are these output events, and lines that are none. -/
def Emits (s t : State) (os : List Output) : Prop :=
  ∃ ls, t.trace = s.trace ++ ls ∧ ls.filter isEmit = os.map .emit

theorem Emits.trans {s t u : State} {os ps : List Output} (h : Emits s t os) (k : Emits t u ps) :
    Emits s u (os ++ ps) := by
  obtain ⟨ls, htrace, hls⟩ := h
  obtain ⟨ms, htrace', hms⟩ := k
  exact ⟨ls ++ ms, by rw [htrace', htrace, List.append_assoc], by rw [List.filter_append, hls, hms, List.map_append]⟩

theorem Emits.emittedSince_eq {s t : State} {os : List Output} (h : Emits s t os) : emittedSince s t = os.map .emit := by
  obtain ⟨ls, htrace, hls⟩ := h
  rw [emittedSince, htrace, List.drop_left, hls]

/-! ## One callback, for the four commands -/

/-- A callback that goes on with a sector: the request for it, in phase 1, with the timer cleared. -/
structure Requested (s t : State) (rest : List Event) (sector : Nat) : Prop where
  same : SameOperation s t
  inbox_eq : t.inbox = rest
  phase_eq : t.phase = .one
  timer_eq : t.timer = 0
  cursector_eq : t.cursector = sector
  result_eq : t.result = s.result
  status_eq : t.status = s.status ∨ t.status = statusDataReady
  emits : Emits s t [sectorRequest s sector]

/-- The operation has ended (R276, R232), after `m` more sectors and with these requests. -/
structure Completed (s t : State) (rest : List Event) (m : Nat) (os : List Output) : Prop where
  inbox_eq : t.inbox = rest
  timer_eq : t.timer = 0
  sectorsleft_eq : t.sectorsleft = 0
  cursector_eq : t.cursector = s.cursector + m
  status_eq : t.status = statusTerminal
  result_eq : t.result = if s.deletedLatch then 0x20 else 0x00
  spindown_eq : t.spindown = some (s.unloadRevs * Config.revCycles)
  emits : Emits s t os

/-- The callback of opcode `c` is a sector command's arm: its request is the one of `sectorRequest`, perhaps with data-ready,
and its reload touches `bytesleft` alone. -/
structure SectorArm (c : Byte) (request reload : State → State) : Prop where
  arm (u : State) (hu : u.command = c) : timerCallback u = sectorArm request reload { u with timer := 0 }
  request_eq (u : State) (hu : u.command = c) : ∃ v, (v = u.status ∨ v = statusDataReady) ∧
    request u = { u with status := v, trace := u.trace ++ [.emit (sectorRequest u u.cursector)] }
  reload_eq (u : State) : ∃ b, reload u = { u with bytesleft := b }

/-- Each of the four sector commands has such an arm (R192, R193, R195, R196). -/
theorem sectorArm_of_opcode (c : Byte) (hc : c ∈ sectorOpcodes) : ∃ request reload, SectorArm c request reload := by
  simp only [sectorOpcodes, List.mem_cons, List.not_mem_nil, or_false] at hc
  rcases hc with rfl | rfl | rfl | rfl
  · refine ⟨writeRequest, id, timerCallback_writeSector, fun u hu => ⟨statusDataReady, .inr rfl, ?_⟩, fun u => ⟨_, rfl⟩⟩
    simpa [sectorRequest, hu, statusDataReady] using writeRequest_eq u
  · refine ⟨readRequest, _, timerCallback_readSector, fun u hu => ⟨u.status, .inl rfl, ?_⟩, fun u => ⟨_, rfl⟩⟩
    simpa [sectorRequest, hu] using readRequest_eq u
  · refine ⟨readRequest, id, timerCallback_verify, fun u hu => ⟨u.status, .inl rfl, ?_⟩, fun u => ⟨_, rfl⟩⟩
    simpa [sectorRequest, hu] using readRequest_eq u
  · refine ⟨addressRequest, _, timerCallback_readId, fun u hu => ⟨u.status, .inl rfl, ?_⟩, fun u => ⟨_, rfl⟩⟩
    simpa [sectorRequest, hu] using addressRequest_eq u

/-- The lines of a callback with one request. -/
theorem emits_request (s : State) (rest : List Event) (o : Output) (t : State)
    (h : t.trace = (s.take .timerCallback rest).trace ++ [.emit o]) : Emits s t [o] :=
  ⟨_, h.trans (take_trace_append ..), rfl⟩

/-- The phase-0 callback makes the request for the first sector. -/
theorem step_first_sector (s : State) (rest : List Event) (hc : s.command ∈ sectorOpcodes)
    (hin : s.inbox = .timerCallback :: rest) (ht : 0 < s.timer) (hp : s.phase = .zero) :
    ∃ t, step s = .next t ∧ Requested s t rest s.cursector ∧ t.sectorsleft = s.sectorsleft := by
  obtain ⟨request, reload, harm⟩ := sectorArm_of_opcode s.command hc
  obtain ⟨hfirst, _, _⟩ := step_of_sectorArm request reload s rest hin ht harm.arm
  obtain ⟨v, hv, hrequest⟩ := harm.request_eq (phaseZeroEntry (s.atCallback rest)) rfl
  rw [hrequest] at hfirst
  exact ⟨_, hfirst hp, ⟨⟨rfl, rfl, rfl, rfl, rfl, rfl⟩, rfl, rfl, rfl, rfl, rfl, hv, emits_request s rest _ _ rfl⟩, rfl⟩

/-- A phase-1 callback with a sector left goes on with the next one. -/
theorem step_next_sector (s : State) (rest : List Event) (hc : s.command ∈ sectorOpcodes)
    (hin : s.inbox = .timerCallback :: rest) (ht : 0 < s.timer) (hp : s.phase = .one) (hn : s.sectorsleft - 1 ≠ 0) :
    ∃ t, step s = .next t ∧ Requested s t rest (s.cursector + 1) ∧ t.sectorsleft = s.sectorsleft - 1 := by
  obtain ⟨request, reload, harm⟩ := sectorArm_of_opcode s.command hc
  obtain ⟨_, _, hnext⟩ := step_of_sectorArm request reload s rest hin ht harm.arm
  obtain ⟨b, hreload⟩ := harm.reload_eq
    { s.atCallback rest with sectorsleft := s.sectorsleft - 1, cursector := s.cursector + 1 }
  rw [hreload] at hnext
  obtain ⟨v, hv, hrequest⟩ := harm.request_eq
    { s.atCallback rest with sectorsleft := s.sectorsleft - 1, cursector := s.cursector + 1, bytesleft := b } rfl
  rw [hrequest] at hnext
  exact ⟨_, hnext hp hn, ⟨⟨rfl, rfl, rfl, rfl, rfl, rfl⟩, rfl, hp, rfl, rfl, rfl, hv, emits_request s rest _ _ rfl⟩, rfl⟩

/-- A phase-1 callback with the count at its end ends the operation. -/
theorem step_last_sector (s : State) (rest : List Event) (hc : s.command ∈ sectorOpcodes)
    (hin : s.inbox = .timerCallback :: rest) (ht : 0 < s.timer) (hp : s.phase = .one) (hn : s.sectorsleft - 1 = 0) :
    ∃ t, step s = .next t ∧ Completed s t rest 0 [] := by
  obtain ⟨request, reload, harm⟩ := sectorArm_of_opcode s.command hc
  obtain ⟨_, hlast, _⟩ := step_of_sectorArm request reload s rest hin ht harm.arm
  exact ⟨_, hlast hp hn, rfl, rfl, rfl, rfl, rfl, rfl, rfl, _, rfl, rfl⟩

/-! ## A round: a success and the callback it arms -/

/-- The events of `n` successes without a deleted-data mark, each with the callback it arms. -/
def rounds (n : Nat) : List Event := (List.replicate n [Event.success false, .timerCallback]).flatten

theorem rounds_succ (n : Nat) (rest : List Event) :
    rounds (n + 1) ++ rest = .success false :: .timerCallback :: (rounds n ++ rest) := by
  simp [rounds, List.replicate_succ]

/-- The state after a success without a mark. -/
def State.succeeded (rest : List Event) (s : State) : State :=
  { s with inbox := rest, timer := Config.tShort, trace := s.trace ++ [.event (.success false)] }

theorem step_success (s : State) (rest : List Event) (hin : s.inbox = .success false :: rest)
    (hc : s.command ∈ sectorOpcodes) : step s = .next (s.succeeded rest) := by
  have hcommand : s.command ≠ 0xFF := by
    intro h
    rw [h] at hc
    exact absurd hc (by decide)
  rw [successArmsTheTimer s rest false hin, if_neg hcommand, Bool.or_false]
  rfl

/-- A success changes nothing that the operation reads, and emits nothing. -/
theorem succeeded_same (s : State) (rest : List Event) : SameOperation s (s.succeeded rest) :=
  ⟨rfl, rfl, rfl, rfl, rfl, rfl⟩

theorem succeeded_emits (s : State) (rest : List Event) : Emits s (s.succeeded rest) [] := ⟨_, rfl, rfl⟩

/-- A round with a sector left goes on with the next one. -/
theorem run_next_round (s : State) (rest : List Event) (n : Nat) (hc : s.command ∈ sectorOpcodes) (hp : s.phase = .one)
    (hin : s.inbox = .success false :: .timerCallback :: rest) (hn : s.sectorsleft - 1 ≠ 0) :
    ∃ t, run (n + 2) s = run n t ∧ Requested s t rest (s.cursector + 1) ∧ t.sectorsleft = s.sectorsleft - 1 := by
  obtain ⟨t, hstep, hreq, hleft⟩ :=
    step_next_sector (s.succeeded (.timerCallback :: rest)) rest hc rfl Config.tShort_pos hp hn
  have hrun : run (n + 2) s = run n t := by
    rw [run_succ_of_next _ _ _ (step_success s _ hin hc), run_succ_of_next _ _ _ hstep]
  exact ⟨t, hrun, { hreq with
    same := (succeeded_same s _).trans hreq.same
    emits := (succeeded_emits s _).trans hreq.emits }, hleft⟩

/-- A round with the count at its end ends the operation. -/
theorem run_last_round (s : State) (rest : List Event) (hc : s.command ∈ sectorOpcodes) (hp : s.phase = .one)
    (hin : s.inbox = .success false :: .timerCallback :: rest) (hn : s.sectorsleft - 1 = 0) :
    ∃ t, run 2 s = .next t ∧ Completed s t rest 0 [] := by
  obtain ⟨t, hstep, hended⟩ :=
    step_last_sector (s.succeeded (.timerCallback :: rest)) rest hc rfl Config.tShort_pos hp hn
  have hrun : run 2 s = .next t := by
    rw [run_succ_of_next _ _ _ (step_success s _ hin hc), run_succ_of_next _ _ _ hstep, run_zero]
  exact ⟨t, hrun, { hended with emits := (succeeded_emits s _).trans hended.emits }⟩

/-! ## All the rounds -/

/-- Settles O60, by induction on the number of rounds: a count at zero or below never comes to its end. -/
theorem countZeroNeverCompletes : Obligations.CountZeroNeverCompletes := by
  intro s n rest hc hp hbusy hleft hin
  induction n generalizing s with
  | zero => exact ⟨s, rfl, hin, hbusy, by simp, rfl, rfl⟩
  | succ n ih =>
    change s.inbox = rounds (n + 1) ++ rest at hin
    rw [rounds_succ] at hin
    obtain ⟨u, hrun, hreq, huleft⟩ := run_next_round s _ (2 * n) hc hp hin (by omega)
    have hubusy : busy u = true := by
      rcases hreq.status_eq with e | e
      · rwa [busy, e]
      · exact busy_of_dataReady e
    obtain ⟨t, hrun', hinbox, htbusy, htleft, htsector, htresult⟩ :=
      ih u (hreq.same.command_eq ▸ hc) hreq.phase_eq hubusy (by omega) hreq.inbox_eq
    refine ⟨t, hrun.trans hrun', hinbox, htbusy, ?_, ?_, htresult.trans hreq.result_eq⟩
    · rw [htleft, huleft]; push_cast; omega
    · rw [htsector, hreq.cursector_eq]; omega

/-- What comes before the rest of an operation. -/
theorem Requested.completed {s u t : State} {rest rest' : List Event} {sector m k : Nat} {os : List Output}
    (h : Requested s u rest' sector) (hk : sector + m = s.cursector + k) (hu : Completed u t rest m os) :
    Completed s t rest k (sectorRequest s sector :: os) where
  inbox_eq := hu.inbox_eq
  timer_eq := hu.timer_eq
  sectorsleft_eq := hu.sectorsleft_eq
  cursector_eq := by rw [hu.cursector_eq, h.cursector_eq, hk]
  status_eq := hu.status_eq
  result_eq := by rw [hu.result_eq, h.same.deletedLatch_eq]
  spindown_eq := by rw [hu.spindown_eq, h.same.unloadRevs_eq]
  emits := h.emits.trans hu.emits

/-- The requests of `m` sectors from a first one on. -/
def sectorRequests (s : State) (first m : Nat) : List Output := (List.range m).map fun k => sectorRequest s (first + k)

theorem sectorRequests_succ (s : State) (first m : Nat) :
    sectorRequests s first (m + 1) = sectorRequest s first :: sectorRequests s (first + 1) m := by
  simp only [sectorRequests, List.range_succ_eq_map, List.map_cons, List.map_map, Nat.add_zero]
  congr 1
  refine List.map_congr_left fun k _ => ?_
  rw [Function.comp_apply, Nat.succ_eq_add_one, Nat.add_assoc, Nat.add_comm 1]

theorem SameOperation.sectorRequests_eq {s t : State} (h : SameOperation s t) (first m : Nat) :
    sectorRequests t first m = sectorRequests s first m :=
  List.map_congr_left fun _ _ => h.sectorRequest_eq _

/-- From phase 1 with `m + 1` sectors left, `m` rounds make `m` more requests and the last one ends the operation. -/
theorem run_rounds (m : Nat) (s : State) (rest : List Event) (hc : s.command ∈ sectorOpcodes) (hp : s.phase = .one)
    (hleft : s.sectorsleft = m + 1) (hin : s.inbox = rounds (m + 1) ++ rest) :
    ∃ t, run (2 * (m + 1)) s = .next t ∧ Completed s t rest m (sectorRequests s (s.cursector + 1) m) := by
  induction m generalizing s with
  | zero =>
    obtain ⟨t, hrun, hended⟩ := run_last_round s rest hc hp hin (by omega)
    exact ⟨t, hrun, hended⟩
  | succ m ih =>
    rw [rounds_succ] at hin
    obtain ⟨u, hrun, hreq, huleft⟩ := run_next_round s _ (2 * (m + 1)) hc hp hin (by omega)
    obtain ⟨t, hrun', hcompleted⟩ :=
      ih u (hreq.same.command_eq ▸ hc) hreq.phase_eq (by rw [huleft, hleft]; push_cast; omega) hreq.inbox_eq
    rw [hreq.same.sectorRequests_eq, hreq.cursector_eq] at hcompleted
    refine ⟨t, hrun.trans hrun', ?_⟩
    rw [sectorRequests_succ]
    exact hreq.completed (by omega) hcompleted

/-- The whole operation, from its phase-0 callback. -/
theorem run_sector_operation (n : Nat) (s : State) (rest : List Event) (hc : s.command ∈ sectorOpcodes)
    (hp : s.phase = .zero) (ht : 0 < s.timer) (hn : 1 ≤ n) (hleft : s.sectorsleft = n)
    (hin : s.inbox = .timerCallback :: (rounds n ++ rest)) :
    ∃ t, run (1 + 2 * n) s = .next t ∧ Completed s t rest (n - 1) (sectorRequests s s.cursector n) := by
  obtain ⟨m, rfl⟩ : ∃ m, n = m + 1 := ⟨n - 1, by omega⟩
  obtain ⟨u, hstep, hreq, huleft⟩ := step_first_sector s _ hc hin ht hp
  obtain ⟨t, hrun, hcompleted⟩ := run_rounds m u rest (hreq.same.command_eq ▸ hc) hreq.phase_eq
    (by rw [huleft, hleft]; push_cast; omega) hreq.inbox_eq
  rw [hreq.same.sectorRequests_eq, hreq.cursector_eq] at hcompleted
  refine ⟨t, ?_, ?_⟩
  · rw [Nat.add_comm, run_succ_of_next _ _ _ hstep, hrun]
  · rw [sectorRequests_succ]
    exact hreq.completed (by omega) hcompleted

/-- Settles O59: the four commands make the requests of `sectorRequest`. -/
theorem sectorOperationCompletes : Obligations.SectorOperationCompletes := by
  intro s n rest p hmem hcommand hp ht hlatch hn hleft hin
  have hfour : p.1 ∈ sectorOpcodes ∧ ∀ k, p.2 k = sectorRequest s (s.cursector + k) := by
    simp only [List.mem_cons, List.not_mem_nil, or_false] at hmem
    rcases hmem with rfl | rfl | rfl | rfl <;>
      exact ⟨by simp [sectorOpcodes], fun k => by simp only at hcommand; simp [sectorRequest, hcommand]⟩
  obtain ⟨hopcode, hrequest⟩ := hfour
  obtain ⟨t, hrun, hcompleted⟩ := run_sector_operation n s rest (hcommand ▸ hopcode) hp ht hn hleft hin
  refine ⟨t, hrun, hcompleted.inbox_eq, hcompleted.status_eq, ?_, hcompleted.sectorsleft_eq, hcompleted.cursector_eq,
    hcompleted.timer_eq, hcompleted.spindown_eq, ?_⟩
  · rw [hcompleted.result_eq, hlatch]; rfl
  · rw [hcompleted.emits.emittedSince_eq, sectorRequests, List.map_map]
    exact List.map_congr_left fun k _ => by rw [Function.comp_apply, hrequest]

end Sys2Proof.Machine
